-- ==== Sys2Proof/Word.lean ====
section
/-! DEFINITION. The word types of the machine (00_scope.md R9): bytes, 16-bit words and 2-bit shades. -/

namespace Sys2Proof

/-- An 8-bit value: a register, a memory byte, an opcode byte. -/
abbrev Byte := BitVec 8

/-- A 16-bit value: SP, PC, a register pair, an address. -/
abbrev Word := BitVec 16

/-- One of the four brightness levels a palette entry holds (00_scope.md R20, "Shade"). -/
abbrev Shade := BitVec 2

end Sys2Proof
end

