-- ==== Sys2Proof/Config.lean ====
section
/-! DEFINITION. The implementation parameters of 00_scope.md R11 as plain data (a `Params` record that State holds and no
step changes), their default instantiations, and the two free values (opaque constants without a body). -/

namespace Sys2Proof

/-- An opcode of one of the two tables: a base opcode byte, or the byte after the 0xCB prefix (30_encoding.md R309, R310). -/
inductive Opcode where
  | base (b : Byte)
  | cb (s : Byte)
  deriving DecidableEq, Repr

/-- `StepCycles` (92_eei_decisions.md D5): the two named instantiations, and any other one as a table.
`base` and `cb` are indexed by the opcode byte; a base entry is (cycles when taken, cycles when not taken). -/
inductive StepCycles where
  | reference
  | dmg
  | table (dispatch haltIdle : Nat) (base : List (Nat × Nat)) (cb : List Nat)
  deriving DecidableEq, Repr

/-- A colour of the shade lookup `ShadeRGB` (48_ppu.md R1227). -/
structure Rgb where
  r : Byte
  g : Byte
  b : Byte
  deriving DecidableEq, Repr

/-- The OPEN parameters a run fixes (00_scope.md R11), less the cartridge's (`rom`, `romLen`, `hasMBC1` are fields of State)
and the slot table (State's `slots`). -/
structure Params where
  /-- The opcodes for which `Implemented` is false (D2). -/
  unimplemented : List Opcode
  /-- `BreakpointOpcode` (D4). -/
  breakpoint : Option Byte
  /-- `StepCycles` (D5). -/
  stepCycles : StepCycles
  /-- `OAM_CYCLES`, `DRAW_CYCLES`, `HBLANK_CYCLES`, `VBLANK_LINE_CYCLES` (D6). -/
  oamCycles : Nat
  drawCycles : Nat
  hblankCycles : Nat
  vblankLineCycles : Nat
  /-- `ObjYOffset 8` and `ObjYOffset 16` (D36). -/
  objYOffset8 : Nat
  objYOffset16 : Nat
  /-- `ShadeRGB 0 .. 3` (D40). -/
  shade0 : Rgb
  shade1 : Rgb
  shade2 : Rgb
  shade3 : Rgb
  deriving DecidableEq, Repr

/-- The 11 base opcodes without an operation (30_encoding.md R311). -/
def Config.unassignedOpcodes : List Byte :=
  [0xD3, 0xDB, 0xDD, 0xE3, 0xE4, 0xEB, 0xEC, 0xED, 0xF4, 0xFC, 0xFD]

/-- The opcodes that `ImplementedDefault` excludes (D2): the 11 unassigned ones and STOP. -/
def Config.unimplementedDefault : List Opcode :=
  .base 0x10 :: Config.unassignedOpcodes.map .base

/-- The default instantiation of every OPEN parameter. DESIGN CHOICE among the named ones (log entry 3): `ImplementedDefault`,
no breakpoint, `StepCyclesReference`, `PpuBudgetDMG`, `ObjYOffsetDoc`, `ShadeRGBGrey`. -/
def Params.default : Params where
  unimplemented := Config.unimplementedDefault
  breakpoint := none
  stepCycles := .reference
  oamCycles := 80
  drawCycles := 172
  hblankCycles := 204
  vblankLineCycles := 456
  objYOffset8 := 8
  objYOffset16 := 16
  shade0 := ⟨255, 255, 255⟩
  shade1 := ⟨170, 170, 170⟩
  shade2 := ⟨85, 85, 85⟩
  shade3 := ⟨0, 0, 0⟩

/-- `PeripheralSlots` at its default (92_eei_decisions.md D27): keypad, serial, timer, DMA. -/
def Config.peripheralSlots : List Nat := [0x00, 0x01, 0x02, 0x04, 0x05, 0x06, 0x07, 0x46]

/-- Free value: `StatRead` (10_state.md R121), the byte that the `n`-th draw of a run gives a read of STAT (log entry 5). -/
opaque Config.statRead : Nat → Byte

/-- Free value: the peripheral oracle (20_memory.md R213), the byte that the `n`-th draw of a run gives a read of slot
`slot` (first argument the draw, second the slot; log entry 5). -/
opaque Config.periphRead : Nat → Nat → Byte

end Sys2Proof
end

