-- ==== Sys2Proof/Machine/State.lean ====
section
/-! DEFINITION. The state of the CORE block as plain data (10_state.md), its reset value, and the reasons a step can stop. -/

namespace Sys2Proof.Machine

open Sys2Proof

/-- A sparse byte array in one canonical form: addresses strictly rising, no entry equal to what an unlisted address reads
as (`Memory.default` of Machine/Memory.lean). -/
abbrev Memory := List Host.Cell

/-- One of the 129 registration entries of the I/O multiplexer (10_state.md R115): slots 0x00..0x7F, and the IE slot. -/
inductive Slot where
  | io (n : Nat)
  | ie
  deriving DecidableEq, Repr

/-- The component that registered a slot (10_state.md R116). -/
inductive Owner where
  | cpu | ppu | keypad | serial | timer | dma
  deriving DecidableEq, Repr

/-- Which owner's callback a registered slot runs (20_memory.md R203): a CPU or PPU register, or an external peripheral. -/
inductive Handler where
  | interruptFlags | interruptEnable
  | lcdc | stat | scy | scx | ly | lyc | bgp | obp0 | obp1 | wy | wx
  | external
  deriving DecidableEq, Repr

/-- A registered slot: an owner, an optional read callback and an optional write callback (10_state.md R115). -/
structure SlotEntry where
  slot : Slot
  owner : Owner
  read : Option Handler
  write : Option Handler
  deriving DecidableEq, Repr

/-- The PPU's mode (10_state.md R117). -/
inductive PpuMode where
  | oamSearch | drawing | hBlank | vBlank
  deriving DecidableEq, Repr

/-- The four shades of the background palette (10_state.md R119, R125). -/
structure BgPalette where
  c0 : Shade
  c1 : Shade
  c2 : Shade
  c3 : Shade
  deriving DecidableEq, Repr

/-- The three stored shades of an object palette; index 0 is not stored (10_state.md R119, R126). -/
structure ObjPalette where
  c1 : Shade
  c2 : Shade
  c3 : Shade
  deriving DecidableEq, Repr

/-- The PPU's timing state and registers (10_state.md R117, R119..R127). -/
structure Ppu where
  /-- Cycles spent in the current mode, or the current VBlank line. -/
  counter : Nat
  mode : PpuMode
  /-- The current scanline, 0..153. -/
  line : Nat
  /-- LCDC's eight booleans, packed as R120 packs them. -/
  lcdc : Byte
  scy : Byte
  scx : Byte
  lyc : Byte
  bgp : BgPalette
  obp0 : ObjPalette
  obp1 : ObjPalette
  wy : Byte
  wx : Byte
  deriving DecidableEq, Repr

/-- One memory access of the DMA agent's tick (60_exceptions.md R1320): a read through `readByte`, a write of OAM byte `i`
with a value the oracle chose, or a read whose byte is written to OAM byte `i`. -/
inductive DmaOp where
  | read (src : Word)
  | write (i : Fin 160) (v : Byte)
  | copy (src : Word) (i : Fin 160)
  deriving DecidableEq, Repr

/-- During which of a system step's three ticks the serial agent makes its request (60_exceptions.md R1320). -/
inductive SerialTick where
  | inKeypad | inDma | inTimer
  deriving DecidableEq, Repr

/-- The oracle's choices for the external agents' ticks of one system step (60_exceptions.md R1320). -/
structure AgentTicks where
  /-- The keypad requests its interrupt (bit 4). -/
  keypadRequests : Bool
  /-- What the DMA agent reads and writes, in order. -/
  dmaOps : List DmaOp
  /-- The timer requests its interrupt (bit 2). -/
  timerRequests : Bool
  /-- When, if at all, the serial agent requests its interrupt (bit 3). -/
  serialRequests : Option SerialTick
  deriving DecidableEq, Repr

/-- Why `cpu.step()` returned false (60_exceptions.md R1330). -/
inductive StopReason where
  | unimplemented (op : Opcode)
  | breakpoint (b : Byte)
  deriving DecidableEq, Repr

/-- The run status (10_state.md R129). `Faulted reason` is the outcome `.fault reason` of a step, after which no state is
specified (60_exceptions.md R1331), so it needs no value here (log entry 9). -/
inductive RunStatus where
  | running
  | stopped (r : StopReason)
  deriving DecidableEq, Repr

/-- The whole state of the block (10_state.md), with the model's own bookkeeping (marked MODEL) beside it. -/
structure State where
  /-- The general registers (R100). -/
  a : Byte
  b : Byte
  c : Byte
  d : Byte
  e : Byte
  h : Byte
  l : Byte
  /-- The four flags; F is synthesized from them (R101, R105). -/
  fZ : Bool
  fN : Bool
  fH : Bool
  fC : Bool
  /-- The stack pointer (R102) and the program counter (R104). -/
  sp : Word
  pc : Word
  /-- The master interrupt enable (R108). -/
  ime : Bool
  /-- IF (R110) and IE (R111). -/
  ifr : Byte
  ie : Byte
  /-- The halted state (R112). -/
  halted : Bool
  /-- The ROM image by ROM offset, its length, and the MBC1 bit of the cartridge type (R113, D52). -/
  rom : Memory
  romLen : Nat
  hasMBC1 : Bool
  /-- VRAM, external RAM, WRAM 0 and 1, OAM and HRAM (R113), each byte under its own (non-echo) CPU address. -/
  ram : Memory
  /-- The ROM bank register, 1..31 (R114). -/
  romBank : Nat
  /-- The I/O slot table (R115, R116). -/
  slots : List SlotEntry
  /-- The PPU (R117..R127). -/
  ppu : Ppu
  /-- The pixel buffer by byte offset (R128). -/
  frame : Memory
  /-- The result of the last `ppu.tick`: "entering vblank" (48_ppu.md R1201, R1215). -/
  enteringVblank : Bool
  /-- The run status (R129). -/
  run : RunStatus
  /-- The parameters of the run (00_scope.md R11); no step changes them. -/
  params : Params
  /-- The events `PeriphWrite(slot, v)` recorded since the agents' last ticks, oldest first (20_memory.md R213). -/
  periphWrites : List (Nat × Byte)
  /-- MODEL: the oracle's choices for the agents' ticks to come, one entry a system step; past its end the agents do
  nothing (60_exceptions.md R1320, log entry 6). -/
  agentTicks : List AgentTicks
  /-- MODEL: how many free values the run has drawn so far (log entry 5). -/
  draws : Nat
  deriving DecidableEq, Repr

/-- Why the machine faults: the configuration errors of 60_exceptions.md R1331. Safe: the run is over there. -/
inductive Fault where
  /-- A second claim of an I/O slot, raised by `registerIoHandler` at construction (20_memory.md R208); no step raises it. Safe. -/
  | doubleRegistration (slot : Slot)
  /-- An access to 0xFFFF while the IE slot is unregistered, raised by `slotRead` and `slotWrite` (20_memory.md R207). Safe. -/
  | ieSlotUnregistered
  /-- A read of 0x0000..0x7FFF whose ROM offset is at or beyond the image's length, raised by `romRead` (20_memory.md R209). Safe. -/
  | romOutOfRange (addr : Word) (offset : Nat)
  deriving DecidableEq, Repr

/-- Why the model gives no next state. -/
inductive Refusal where
  /-- An arm of `exec` without a meaning yet; no arm of this model answers it. Safe. -/
  | notModelled (mnemonic : String)
  /-- STOP or an unassigned opcode in a run whose `Implemented` parameter is true for it: the spec gives it no effect then
  ("such an instantiation is outside it", 47_system.md R1102). Raised by `stopUnimplemented`. Safe. -/
  | effectNotGiven (op : Opcode)
  /-- A step of a machine whose run has ended in `Stopped` (60_exceptions.md R1330, 93 T12). Raised by `step`. Safe. -/
  | runEnded
  deriving DecidableEq, Repr

/-- What `exec` and `step` answer. -/
abbrev Result := Host.Outcome State Fault Refusal

/-- The slot table of 10_state.md R116 in the order of construction of 70_reset_and_hazards.md R1402. -/
def resetSlots : List SlotEntry :=
  [⟨.io 0x0F, .cpu, some .interruptFlags, some .interruptFlags⟩,
   ⟨.ie, .cpu, some .interruptEnable, some .interruptEnable⟩,
   ⟨.io 0x40, .ppu, some .lcdc, some .lcdc⟩,
   ⟨.io 0x41, .ppu, some .stat, some .stat⟩,
   ⟨.io 0x42, .ppu, some .scy, some .scy⟩,
   ⟨.io 0x43, .ppu, some .scx, some .scx⟩,
   ⟨.io 0x44, .ppu, some .ly, some .ly⟩,
   ⟨.io 0x45, .ppu, some .lyc, some .lyc⟩,
   ⟨.io 0x47, .ppu, some .bgp, some .bgp⟩,
   ⟨.io 0x48, .ppu, some .obp0, some .obp0⟩,
   ⟨.io 0x49, .ppu, some .obp1, some .obp1⟩,
   ⟨.io 0x4A, .ppu, some .wy, some .wy⟩,
   ⟨.io 0x4B, .ppu, some .wx, some .wx⟩,
   ⟨.io 0x00, .keypad, some .external, some .external⟩,
   ⟨.io 0x01, .serial, some .external, some .external⟩,
   ⟨.io 0x02, .serial, some .external, some .external⟩,
   ⟨.io 0x04, .timer, some .external, some .external⟩,
   ⟨.io 0x05, .timer, some .external, some .external⟩,
   ⟨.io 0x06, .timer, some .external, some .external⟩,
   ⟨.io 0x07, .timer, some .external, some .external⟩,
   ⟨.io 0x46, .dma, some .external, some .external⟩]

/-- The PPU right after reset (10_state.md R130). -/
def Ppu.reset : Ppu where
  counter := 0
  mode := .oamSearch
  line := 0
  lcdc := 0x91
  scy := 0
  scx := 0
  lyc := 0
  bgp := ⟨0, 1, 2, 3⟩
  obp0 := ⟨1, 2, 3⟩
  obp1 := ⟨1, 2, 3⟩
  wy := 0
  wx := 0

/-- The machine right after reset (10_state.md R130, 70_reset_and_hazards.md R1400). The ROM image is configuration: reset
holds an image of 0x8000 bytes of which none is listed (log entry 2). -/
def State.reset : State where
  a := 0x01
  b := 0x00
  c := 0x13
  d := 0x00
  e := 0xD8
  h := 0x01
  l := 0x4D
  fZ := true
  fN := false
  fH := true
  fC := true
  sp := 0xFFFE
  pc := 0x0100
  ime := false
  ifr := 0x00
  ie := 0x00
  halted := false
  rom := []
  romLen := 0x8000
  hasMBC1 := false
  ram := []
  romBank := 1
  slots := resetSlots
  ppu := Ppu.reset
  frame := []
  enteringVblank := false
  run := .running
  params := Params.default
  periphWrites := []
  agentTicks := []
  draws := 0

end Sys2Proof.Machine
end

