-- ==== Sys2Proof/Machine/Access.lean ====
section
/-! DEFINITION. The outcome of a memory access: a value and the state it leaves, or a fault; and how accesses are chained. -/

namespace Sys2Proof.Machine

/-- A completed access with its value and the state after it, or a fault (60_exceptions.md R1331). -/
inductive Access (α : Type) where
  | ok (val : α) (st : State)
  | fault (f : Fault)
  deriving Repr

/-- Go on after an access in the state it left; a fault ends the chain. -/
def Access.andThen {α β : Type} (x : Access α) (f : α → State → Access β) : Access β :=
  match x with
  | .ok v s => f v s
  | .fault r => .fault r

/-- End a chain of accesses in the outcome of an instruction. -/
def Access.finish {α σ : Type} (x : Access α) (f : α → State → Host.Outcome σ Fault Refusal) :
    Host.Outcome σ Fault Refusal :=
  match x with
  | .ok v s => f v s
  | .fault r => .fault r

/-- The value of an access that did not fault. -/
def Access.value {α : Type} : Access α → Option α
  | .ok v _ => some v
  | .fault _ => none

end Sys2Proof.Machine
end

