-- ==== Sys2Proof/Machine/Flags.lean ====
section
/-! DEFINITION. Every result and flag computation of the arithmetic, logic, rotate and shift instructions, over exact
integers and narrowed at the end (00_scope.md R13). -/

namespace Sys2Proof.Machine

open Sys2Proof

/-- An 8-bit result with the four flags it gives. -/
structure Flagged where
  val : Byte
  z : Bool
  n : Bool
  h : Bool
  c : Bool
  deriving DecidableEq, Repr

/-- `Add8(a, x, cin)` (43_alu8.md R701). -/
def add8 (a x : Byte) (cin : Bool) : Flagged :=
  let sum := a.toNat + x.toNat + cin.toNat
  let r : Byte := BitVec.ofNat 8 sum
  { val := r
    z := r == 0
    n := false
    h := decide (a.toNat % 16 + x.toNat % 16 + cin.toNat > 0xF)
    c := decide (sum > 0xFF) }

/-- `Sub8(a, x, cin)` (43_alu8.md R702). -/
def sub8 (a x : Byte) (cin : Bool) : Flagged :=
  let r : Byte := a - x - BitVec.ofNat 8 cin.toNat
  { val := r
    z := r == 0
    n := true
    h := decide (a.toNat % 16 < x.toNat % 16 + cin.toNat)
    c := decide (a.toNat < x.toNat + cin.toNat) }

/-- AND (43_alu8.md R715): H = 1, N = C = 0. -/
def and8 (a x : Byte) : Flagged :=
  { val := a &&& x, z := a &&& x == 0, n := false, h := true, c := false }

/-- XOR (43_alu8.md R718): N = H = C = 0. -/
def xor8 (a x : Byte) : Flagged :=
  { val := a ^^^ x, z := a ^^^ x == 0, n := false, h := false, c := false }

/-- OR (43_alu8.md R721): N = H = C = 0. -/
def or8 (a x : Byte) : Flagged :=
  { val := a ||| x, z := a ||| x == 0, n := false, h := false, c := false }

/-- INC of an 8-bit operand (43_alu8.md R727): N = 1 as DOC directs (D56); the carry passes through. -/
def inc8 (o : Byte) (carry : Bool) : Flagged :=
  { val := o + 1, z := o + 1 == 0, n := true, h := o &&& 0xF == 0xF, c := carry }

/-- DEC of an 8-bit operand (43_alu8.md R729); the carry passes through. -/
def dec8 (o : Byte) (carry : Bool) : Flagged :=
  { val := o - 1, z := o - 1 == 0, n := true, h := o &&& 0xF == 0x0, c := carry }

/-- DAA (43_alu8.md R731): the addition-only correction, whatever N is; N passes through. -/
def daa8 (a : Byte) (n h c : Bool) : Flagged :=
  let a1 : Byte := if a.toNat % 16 > 9 || h then a + 0x06 else a
  let c2 : Bool := decide (a1.toNat / 16 > 9) || c
  let a2 : Byte := if c2 then a1 + 0x60 else a1
  { val := a2, z := a2 == 0, n := n, h := false, c := c2 }

/-- Half-carry of `ADD HL,rr`: the carry out of bit 11 (44_alu16.md R801). -/
def addHalf16 (x y : Word) : Bool := decide (x.toNat % 0x1000 + y.toNat % 0x1000 > 0x0FFF)

/-- Carry of `ADD HL,rr`: overflow of the 16-bit add (44_alu16.md R801). -/
def addCarry16 (x y : Word) : Bool := decide (x.toNat + y.toNat > 0xFFFF)

/-- Half-carry of SP + e8: the low nibbles, e unsigned (44_alu16.md R804, 42_load16.md R604). -/
def spHalf (sp : Word) (e : Byte) : Bool := decide (sp.toNat % 16 + e.toNat % 16 > 0xF)

/-- Carry of SP + e8: the low bytes, e unsigned (44_alu16.md R804, 42_load16.md R604). -/
def spCarry (sp : Word) (e : Byte) : Bool := decide (sp.toNat % 256 + e.toNat > 0xFF)

/-- A rotated or shifted value with the bit shifted out. -/
structure Shifted where
  val : Byte
  out : Bool
  deriving DecidableEq, Repr

/-- RLC (45_rotate_shift_bit.md R905). -/
def rlc8 (v : Byte) : Shifted := ⟨v <<< 1 ||| (BitVec.ofBool (v.getLsbD 7)).setWidth 8, v.getLsbD 7⟩

/-- RRC (45_rotate_shift_bit.md R907). -/
def rrc8 (v : Byte) : Shifted := ⟨v >>> 1 ||| (BitVec.ofBool (v.getLsbD 0)).setWidth 8 <<< 7, v.getLsbD 0⟩

/-- RL (45_rotate_shift_bit.md R909). -/
def rl8 (v : Byte) (carry : Bool) : Shifted := ⟨v <<< 1 ||| (BitVec.ofBool carry).setWidth 8, v.getLsbD 7⟩

/-- RR (45_rotate_shift_bit.md R911). -/
def rr8 (v : Byte) (carry : Bool) : Shifted := ⟨v >>> 1 ||| (BitVec.ofBool carry).setWidth 8 <<< 7, v.getLsbD 0⟩

/-- SLA (45_rotate_shift_bit.md R913). -/
def sla8 (v : Byte) : Shifted := ⟨v <<< 1, v.getLsbD 7⟩

/-- SRA (45_rotate_shift_bit.md R915): bit 7 is kept. -/
def sra8 (v : Byte) : Shifted := ⟨v >>> 1 ||| v &&& 0x80, v.getLsbD 0⟩

/-- SWAP (45_rotate_shift_bit.md R917): the carry is cleared (D12). -/
def swap8 (v : Byte) : Shifted := ⟨v <<< 4 ||| v >>> 4, false⟩

/-- SRL (45_rotate_shift_bit.md R919). -/
def srl8 (v : Byte) : Shifted := ⟨v >>> 1, v.getLsbD 0⟩

/-- The single-bit mask `1 << n`. -/
def bitMask (n : Nat) : Byte := (1 : Byte) <<< n

end Sys2Proof.Machine
end

