-- ==== Sys2Proof/Machine/Memory.lean ====
section
/-! DEFINITION. Byte arrays as sparse lists in one canonical form: read, write, write of a row, and the form itself. -/

namespace Sys2Proof.Machine

open Sys2Proof

/-- What an unlisted address reads as. The spec leaves RAM and the pixel buffer open at reset ("any value", 93 T8, T11) and
takes the ROM image as a parameter; 0x00 is a DESIGN CHOICE, unsafe for RAM (log entry 1). -/
def Memory.default : Byte := 0x00

/-- The byte at an address. -/
def Memory.read : Memory → Nat → Byte
  | [], _ => Memory.default
  | cell :: rest, addr => if cell.1 = addr then cell.2 else Memory.read rest addr

/-- Put a cell in its place in a rising list that has no cell of its address. -/
def Memory.insertCell (new : Host.Cell) : Memory → Memory
  | [] => [new]
  | cell :: rest => if new.1 < cell.1 then new :: cell :: rest else cell :: Memory.insertCell new rest

/-- Write a byte; writing the default removes the entry. -/
def Memory.write (m : Memory) (addr : Nat) (v : Byte) : Memory :=
  let others := m.filter fun cell => cell.1 != addr
  if v = Memory.default then others else Memory.insertCell (addr, v) others

/-- The listed cells of consecutive bytes that start at `addr`. -/
def Memory.cellsFrom : Nat → List Byte → Memory
  | _, [] => []
  | addr, v :: rest =>
    if v = Memory.default then Memory.cellsFrom (addr + 1) rest else (addr, v) :: Memory.cellsFrom (addr + 1) rest

/-- Write consecutive bytes from `addr` on: the same as writing each in turn (Laws/Memory.lean `read_writeRow`). -/
def Memory.writeRow (m : Memory) (addr : Nat) (bytes : List Byte) : Memory :=
  (m.filter fun cell => cell.1 < addr) ++ Memory.cellsFrom addr bytes ++
    m.filter fun cell => addr + bytes.length ≤ cell.1

/-- The canonical form: addresses strictly rising, no entry equal to the default. -/
abbrev Memory.wf (m : Memory) : Prop :=
  m.Pairwise (fun x y => x.1 < y.1) ∧ ∀ cell ∈ m, cell.2 ≠ Memory.default

end Sys2Proof.Machine
end

