-- ==== Sys2Proof/Machine/Io.lean ====
section
/-! DEFINITION. The I/O register multiplexer (20_memory.md R203, R208), the registers behind its slots (10_state.md
R110..R127), and the construction of the slot table (70_reset_and_hazards.md R1402). -/

namespace Sys2Proof.Machine

open Sys2Proof

/-! ### The PPU's registers -/

/-- LCDC's booleans (10_state.md R120). -/
def Ppu.lcdEnable (p : Ppu) : Bool := p.lcdc.getLsbD 7
def Ppu.winMapSelect (p : Ppu) : Bool := p.lcdc.getLsbD 6
def Ppu.winEnable (p : Ppu) : Bool := p.lcdc.getLsbD 5
def Ppu.tileDataSelect (p : Ppu) : Bool := p.lcdc.getLsbD 4
def Ppu.bgMapSelect (p : Ppu) : Bool := p.lcdc.getLsbD 3
def Ppu.objSize (p : Ppu) : Bool := p.lcdc.getLsbD 2
def Ppu.objEnable (p : Ppu) : Bool := p.lcdc.getLsbD 1
def Ppu.bgEnable (p : Ppu) : Bool := p.lcdc.getLsbD 0

/-- The shade of a background colour index (48_ppu.md R1227). -/
def BgPalette.shade (p : BgPalette) : BitVec 2 → Shade
  | 0 => p.c0
  | 1 => p.c1
  | 2 => p.c2
  | _ => p.c3

/-- A read of BGP: the four shades, entry 0 in bits 1..0 (10_state.md R125). -/
def BgPalette.pack (p : BgPalette) : Byte := p.c3 ++ p.c2 ++ p.c1 ++ p.c0

/-- A write of BGP (10_state.md R125). -/
def BgPalette.unpack (v : Byte) : BgPalette :=
  ⟨v.extractLsb' 0 2, v.extractLsb' 2 2, v.extractLsb' 4 2, v.extractLsb' 6 2⟩

/-- The shade of an object colour index; index 0 is transparent and has none (48_ppu.md R1227). -/
def ObjPalette.shade (p : ObjPalette) : BitVec 2 → Option Shade
  | 0 => none
  | 1 => some p.c1
  | 2 => some p.c2
  | _ => some p.c3

/-- A read of OBP0 or OBP1: bits 1..0 read 0 (10_state.md R126). -/
def ObjPalette.pack (p : ObjPalette) : Byte := p.c3 ++ p.c2 ++ p.c1 ++ (0 : BitVec 2)

/-- A write of OBP0 or OBP1: bits 1..0 are ignored (10_state.md R126). -/
def ObjPalette.unpack (v : Byte) : ObjPalette :=
  ⟨v.extractLsb' 2 2, v.extractLsb' 4 2, v.extractLsb' 6 2⟩

/-- A write of LY: line, counter and mode go to the start of a frame, the value is ignored (10_state.md R123). -/
def Ppu.writeLY (p : Ppu) : Ppu := { p with line := 0, counter := 0, mode := .oamSearch }

/-! ### Callbacks -/

/-- Take the next draw of a free value. -/
def State.drawn (s : State) : State := { s with draws := s.draws + 1 }

/-- The number by which a peripheral's oracle knows a slot. -/
def Slot.index : Slot → Nat
  | .io n => n
  | .ie => 0xFF

/-- The read callback of a register (10_state.md R110, R111, R120..R127; a peripheral's slot, 20_memory.md R213). -/
def handlerRead (h : Handler) (slot : Slot) (s : State) : Access Byte :=
  match h with
  | .interruptFlags => .ok s.ifr s
  | .interruptEnable => .ok s.ie s
  | .lcdc => .ok s.ppu.lcdc s
  | .stat => .ok (Config.statRead s.draws) s.drawn
  | .scy => .ok s.ppu.scy s
  | .scx => .ok s.ppu.scx s
  | .ly => .ok (BitVec.ofNat 8 s.ppu.line) s
  | .lyc => .ok s.ppu.lyc s
  | .bgp => .ok s.ppu.bgp.pack s
  | .obp0 => .ok s.ppu.obp0.pack s
  | .obp1 => .ok s.ppu.obp1.pack s
  | .wy => .ok s.ppu.wy s
  | .wx => .ok s.ppu.wx s
  | .external => .ok (Config.periphRead s.draws slot.index) s.drawn

/-- The write callback of a register (10_state.md R110, R111, R120..R127; a peripheral's slot, 20_memory.md R213). -/
def handlerWrite (h : Handler) (slot : Slot) (v : Byte) (s : State) : State :=
  match h with
  | .interruptFlags => { s with ifr := v }
  | .interruptEnable => { s with ie := v }
  | .lcdc => { s with ppu := { s.ppu with lcdc := v } }
  | .stat => s
  | .scy => { s with ppu := { s.ppu with scy := v } }
  | .scx => { s with ppu := { s.ppu with scx := v } }
  | .ly => { s with ppu := s.ppu.writeLY }
  | .lyc => { s with ppu := { s.ppu with lyc := v } }
  | .bgp => { s with ppu := { s.ppu with bgp := .unpack v } }
  | .obp0 => { s with ppu := { s.ppu with obp0 := .unpack v } }
  | .obp1 => { s with ppu := { s.ppu with obp1 := .unpack v } }
  | .wy => { s with ppu := { s.ppu with wy := v } }
  | .wx => { s with ppu := { s.ppu with wx := v } }
  | .external => { s with periphWrites := s.periphWrites ++ [(slot.index, v)] }

/-! ### The multiplexer -/

/-- The entry of a slot, if it is registered. -/
def lookupSlot (slots : List SlotEntry) (slot : Slot) : Option SlotEntry := slots.find? fun e => e.slot == slot

/-- `SlotRead(slot)` (20_memory.md R203): the read callback; 0xFF without one; a fault if the IE slot is empty (R207). -/
def slotRead (s : State) (slot : Slot) : Access Byte :=
  match lookupSlot s.slots slot with
  | some entry =>
    match entry.read with
    | some h => handlerRead h slot s
    | none => .ok 0xFF s
  | none => if slot = .ie then .fault .ieSlotUnregistered else .ok 0xFF s

/-- `SlotWrite(slot, v)` (20_memory.md R203): the write callback; nothing without one; a fault if the IE slot is empty (R207). -/
def slotWrite (s : State) (slot : Slot) (v : Byte) : Access Unit :=
  match lookupSlot s.slots slot with
  | some entry =>
    match entry.write with
    | some h => .ok () (handlerWrite h slot v s)
    | none => .ok () s
  | none => if slot = .ie then .fault .ieSlotUnregistered else .ok () s

/-! ### Construction of the slot table -/

/-- `registerIoHandler(slot, readFn?, writeFn?, owner)` (20_memory.md R208): a second claim of a slot is a fault. -/
def registerIoHandler (slots : List SlotEntry) (new : SlotEntry) : Except Fault (List SlotEntry) :=
  match lookupSlot slots new.slot with
  | some _ => .error (.doubleRegistration new.slot)
  | none => .ok (slots ++ [new])

/-- Register a list of slots one after another. -/
def registerAll (slots : List SlotEntry) : List SlotEntry → Except Fault (List SlotEntry)
  | [] => .ok slots
  | new :: rest =>
    match registerIoHandler slots new with
    | .ok slots' => registerAll slots' rest
    | .error f => .error f

/-- What the CPU registers when it is constructed (70_reset_and_hazards.md R1402, 92_eei_decisions.md D19). -/
def cpuSlots : List SlotEntry :=
  [⟨.io 0x0F, .cpu, some .interruptFlags, some .interruptFlags⟩, ⟨.ie, .cpu, some .interruptEnable, some .interruptEnable⟩]

/-- What the PPU registers when it is constructed (70_reset_and_hazards.md R1402, 92_eei_decisions.md D27). -/
def ppuSlots : List SlotEntry :=
  [(0x40, Handler.lcdc), (0x41, .stat), (0x42, .scy), (0x43, .scx), (0x44, .ly), (0x45, .lyc), (0x47, .bgp),
   (0x48, .obp0), (0x49, .obp1), (0x4A, .wy), (0x4B, .wx)].map fun p => ⟨.io p.1, .ppu, some p.2, some p.2⟩

/-- The peripheral that owns a slot of `PeripheralSlots` at its default (10_state.md R116). The spec names no owner for a slot
outside that default; that every such slot goes to the timer is a DESIGN CHOICE (log entry 4), and nothing reads the owner. -/
def peripheralOwner (n : Nat) : Owner :=
  if n = 0x00 then .keypad else if n ≤ 0x02 then .serial else if n = 0x46 then .dma else .timer

/-- What the external peripherals register (70_reset_and_hazards.md R1402). -/
def peripheralSlotEntries (slots : List Nat) : List SlotEntry :=
  slots.map fun n => ⟨.io n, peripheralOwner n, some .external, some .external⟩

/-- The construction of the slot table in the order of 70_reset_and_hazards.md R1402, from an empty table. -/
def constructSlots (peripherals : List Nat) : Except Fault (List SlotEntry) :=
  registerAll [] (cpuSlots ++ ppuSlots ++ peripheralSlotEntries peripherals)

end Sys2Proof.Machine
end

