-- ==== Sys2Proof/Syntax.lean ====
section
/-! DEFINITION. The instruction set: one constructor per row of the opcode table (30_encoding.md R309, R310, R314), the
operand names of R303..R307, and the forms (R302) that gather the constructors of one encoding pattern. -/

namespace Sys2Proof

/-! ### Operands -/

/-- The registers of the 3-bit field r8 (30_encoding.md R303); value 6, (HL), has constructors of its own. -/
inductive R8 where
  | b | c | d | e | h | l | a
  deriving DecidableEq, Repr

/-- The register pairs of LD rr,n16, ADD HL,rr, INC rr, DEC rr (30_encoding.md R304). -/
inductive RP where
  | bc | de | hl | sp
  deriving DecidableEq, Repr

/-- The register pairs of PUSH and POP (30_encoding.md R304). -/
inductive RP2 where
  | bc | de | hl | af
  deriving DecidableEq, Repr

/-- The conditions of the 2-bit field cc (30_encoding.md R305). -/
inductive Cond where
  | nz | z | nc | c
  deriving DecidableEq, Repr

/-- The 8-bit ALU operations of the field y (30_encoding.md R306). -/
inductive AluOp where
  | add | adc | sub | sbc | and | xor | or | cp
  deriving DecidableEq, Repr

/-- The CB rotates and shifts of the field y (30_encoding.md R307). -/
inductive RotOp where
  | rlc | rrc | rl | rr | sla | sra | swap | srl
  deriving DecidableEq, Repr

/-- A bit number 0..7 (30_encoding.md R307). -/
inductive BitNo where
  | b0 | b1 | b2 | b3 | b4 | b5 | b6 | b7
  deriving DecidableEq, Repr

def BitNo.toNat : BitNo → Nat
  | .b0 => 0 | .b1 => 1 | .b2 => 2 | .b3 => 3 | .b4 => 4 | .b5 => 5 | .b6 => 6 | .b7 => 7

/-- The RST field ttt (46_control.md R1010). -/
inductive RstNo where
  | t0 | t1 | t2 | t3 | t4 | t5 | t6 | t7
  deriving DecidableEq, Repr

def RstNo.toNat : RstNo → Nat
  | .t0 => 0 | .t1 => 1 | .t2 => 2 | .t3 => 3 | .t4 => 4 | .t5 => 5 | .t6 => 6 | .t7 => 7

/-! ### Instructions

An immediate operand is the constructor's argument (30_encoding.md R301): `n` an unsigned byte, `e` a byte read as two's
complement, `nn` a 16-bit word. `Ind` marks an operand in memory: `ldAIndBC` is LD A,(BC). -/

/-- The instructions: the base opcodes with an immediate, the other base opcodes, the CB sub-opcodes, each group in opcode
order (constructors with a field come first because the compiler bounds their number, not their meaning). -/
inductive Instr where
  | ldBCN16 (nn : Word)
  | ldBN8 (n : Byte)
  | ldIndN16SP (nn : Word)
  | ldCN8 (n : Byte)
  | stop (n : Byte)
  | ldDEN16 (nn : Word)
  | ldDN8 (n : Byte)
  | jrE8 (e : Byte)
  | ldEN8 (n : Byte)
  | jrNZE8 (e : Byte)
  | ldHLN16 (nn : Word)
  | ldHN8 (n : Byte)
  | jrZE8 (e : Byte)
  | ldLN8 (n : Byte)
  | jrNCE8 (e : Byte)
  | ldSPN16 (nn : Word)
  | ldIndHLN8 (n : Byte)
  | jrCE8 (e : Byte)
  | ldAN8 (n : Byte)
  | jpNZN16 (nn : Word)
  | jpN16 (nn : Word)
  | callNZN16 (nn : Word)
  | addAN8 (n : Byte)
  | jpZN16 (nn : Word)
  | prefixCb (sub : Byte) -- PREFIX CB with the sub-opcode that follows it
  | callZN16 (nn : Word)
  | callN16 (nn : Word)
  | adcAN8 (n : Byte)
  | jpNCN16 (nn : Word)
  | callNCN16 (nn : Word)
  | subN8 (n : Byte)
  | jpCN16 (nn : Word)
  | callCN16 (nn : Word)
  | sbcAN8 (n : Byte)
  | ldhIndN8A (n : Byte)
  | andN8 (n : Byte)
  | addSPE8 (e : Byte)
  | ldIndN16A (nn : Word)
  | xorN8 (n : Byte)
  | ldhAIndN8 (n : Byte)
  | orN8 (n : Byte)
  | ldHLSPE8 (e : Byte)
  | ldAIndN16 (nn : Word)
  | cpN8 (n : Byte)
  | nop | ldIndBCA | incBC | incB | decB | rlca | addHLBC | ldAIndBC
  | decBC | incC | decC | rrca | ldIndDEA | incDE | incD | decD
  | rla | addHLDE | ldAIndDE | decDE | incE | decE | rra | ldIndHLIncA
  | incHL | incH | decH | daa | addHLHL | ldAIndHLInc | decHL | incL
  | decL | cpl | ldIndHLDecA | incSP | incIndHL | decIndHL | scf | addHLSP
  | ldAIndHLDec | decSP | incA | decA | ccf | ldBB | ldBC | ldBD
  | ldBE | ldBH | ldBL | ldBIndHL | ldBA | ldCB | ldCC | ldCD
  | ldCE | ldCH | ldCL | ldCIndHL | ldCA | ldDB | ldDC | ldDD
  | ldDE | ldDH | ldDL | ldDIndHL | ldDA | ldEB | ldEC | ldED
  | ldEE | ldEH | ldEL | ldEIndHL | ldEA | ldHB | ldHC | ldHD
  | ldHE | ldHH | ldHL | ldHIndHL | ldHA | ldLB | ldLC | ldLD
  | ldLE | ldLH | ldLL | ldLIndHL | ldLA | ldIndHLB | ldIndHLC | ldIndHLD
  | ldIndHLE | ldIndHLH | ldIndHLL | halt | ldIndHLA | ldAB | ldAC | ldAD
  | ldAE | ldAH | ldAL | ldAIndHL | ldAA | addAB | addAC | addAD
  | addAE | addAH | addAL | addAIndHL | addAA | adcAB | adcAC | adcAD
  | adcAE | adcAH | adcAL | adcAIndHL | adcAA | subB | subC | subD
  | subE | subH | subL | subIndHL | subA | sbcAB | sbcAC | sbcAD
  | sbcAE | sbcAH | sbcAL | sbcAIndHL | sbcAA | andB | andC | andD
  | andE | andH | andL | andIndHL | andA | xorB | xorC | xorD
  | xorE | xorH | xorL | xorIndHL | xorA | orB | orC | orD
  | orE | orH | orL | orIndHL | orA | cpB | cpC | cpD
  | cpE | cpH | cpL | cpIndHL | cpA | retNZ | popBC | pushBC
  | rst00 | retZ | ret | rst08 | retNC | popDE | unassignedD3 | pushDE
  | rst10 | retC | reti | unassignedDB | unassignedDD | rst18 | popHL | ldIndCA
  | unassignedE3 | unassignedE4 | pushHL | rst20 | jpHL | unassignedEB | unassignedEC | unassignedED
  | rst28 | popAF | ldAIndC | di | unassignedF4 | pushAF | rst30 | ldSPHL
  | ei | unassignedFC | unassignedFD | rst38 | rlcB | rlcC | rlcD | rlcE
  | rlcH | rlcL | rlcIndHL | rlcA | rrcB | rrcC | rrcD | rrcE
  | rrcH | rrcL | rrcIndHL | rrcA | rlB | rlC | rlD | rlE
  | rlH | rlL | rlIndHL | rlA | rrB | rrC | rrD | rrE
  | rrH | rrL | rrIndHL | rrA | slaB | slaC | slaD | slaE
  | slaH | slaL | slaIndHL | slaA | sraB | sraC | sraD | sraE
  | sraH | sraL | sraIndHL | sraA | swapB | swapC | swapD | swapE
  | swapH | swapL | swapIndHL | swapA | srlB | srlC | srlD | srlE
  | srlH | srlL | srlIndHL | srlA | bit0B | bit0C | bit0D | bit0E
  | bit0H | bit0L | bit0IndHL | bit0A | bit1B | bit1C | bit1D | bit1E
  | bit1H | bit1L | bit1IndHL | bit1A | bit2B | bit2C | bit2D | bit2E
  | bit2H | bit2L | bit2IndHL | bit2A | bit3B | bit3C | bit3D | bit3E
  | bit3H | bit3L | bit3IndHL | bit3A | bit4B | bit4C | bit4D | bit4E
  | bit4H | bit4L | bit4IndHL | bit4A | bit5B | bit5C | bit5D | bit5E
  | bit5H | bit5L | bit5IndHL | bit5A | bit6B | bit6C | bit6D | bit6E
  | bit6H | bit6L | bit6IndHL | bit6A | bit7B | bit7C | bit7D | bit7E
  | bit7H | bit7L | bit7IndHL | bit7A | res0B | res0C | res0D | res0E
  | res0H | res0L | res0IndHL | res0A | res1B | res1C | res1D | res1E
  | res1H | res1L | res1IndHL | res1A | res2B | res2C | res2D | res2E
  | res2H | res2L | res2IndHL | res2A | res3B | res3C | res3D | res3E
  | res3H | res3L | res3IndHL | res3A | res4B | res4C | res4D | res4E
  | res4H | res4L | res4IndHL | res4A | res5B | res5C | res5D | res5E
  | res5H | res5L | res5IndHL | res5A | res6B | res6C | res6D | res6E
  | res6H | res6L | res6IndHL | res6A | res7B | res7C | res7D | res7E
  | res7H | res7L | res7IndHL | res7A | set0B | set0C | set0D | set0E
  | set0H | set0L | set0IndHL | set0A | set1B | set1C | set1D | set1E
  | set1H | set1L | set1IndHL | set1A | set2B | set2C | set2D | set2E
  | set2H | set2L | set2IndHL | set2A | set3B | set3C | set3D | set3E
  | set3H | set3L | set3IndHL | set3A | set4B | set4C | set4D | set4E
  | set4H | set4L | set4IndHL | set4A | set5B | set5C | set5D | set5E
  | set5H | set5L | set5IndHL | set5A | set6B | set6C | set6D | set6E
  | set6H | set6L | set6IndHL | set6A | set7B | set7C | set7D | set7E
  | set7H | set7L | set7IndHL | set7A
  deriving DecidableEq, Repr

/-! ### Forms

Each form gathers the constructors whose opcodes share one bit pattern of the spec; statements name instructions by them. -/

namespace Instr

/-- `LD d,s`, `01 ddd sss` (41_load8.md R501). -/
def ldR : R8 → R8 → Instr
  | .b, .b => .ldBB
  | .b, .c => .ldBC
  | .b, .d => .ldBD
  | .b, .e => .ldBE
  | .b, .h => .ldBH
  | .b, .l => .ldBL
  | .b, .a => .ldBA
  | .c, .b => .ldCB
  | .c, .c => .ldCC
  | .c, .d => .ldCD
  | .c, .e => .ldCE
  | .c, .h => .ldCH
  | .c, .l => .ldCL
  | .c, .a => .ldCA
  | .d, .b => .ldDB
  | .d, .c => .ldDC
  | .d, .d => .ldDD
  | .d, .e => .ldDE
  | .d, .h => .ldDH
  | .d, .l => .ldDL
  | .d, .a => .ldDA
  | .e, .b => .ldEB
  | .e, .c => .ldEC
  | .e, .d => .ldED
  | .e, .e => .ldEE
  | .e, .h => .ldEH
  | .e, .l => .ldEL
  | .e, .a => .ldEA
  | .h, .b => .ldHB
  | .h, .c => .ldHC
  | .h, .d => .ldHD
  | .h, .e => .ldHE
  | .h, .h => .ldHH
  | .h, .l => .ldHL
  | .h, .a => .ldHA
  | .l, .b => .ldLB
  | .l, .c => .ldLC
  | .l, .d => .ldLD
  | .l, .e => .ldLE
  | .l, .h => .ldLH
  | .l, .l => .ldLL
  | .l, .a => .ldLA
  | .a, .b => .ldAB
  | .a, .c => .ldAC
  | .a, .d => .ldAD
  | .a, .e => .ldAE
  | .a, .h => .ldAH
  | .a, .l => .ldAL
  | .a, .a => .ldAA

/-- `LD d,n8`, `00 ddd 110 n8` (41_load8.md R502). -/
def ldN : R8 → Byte → Instr
  | .b, n => .ldBN8 n
  | .c, n => .ldCN8 n
  | .d, n => .ldDN8 n
  | .e, n => .ldEN8 n
  | .h, n => .ldHN8 n
  | .l, n => .ldLN8 n
  | .a, n => .ldAN8 n

/-- `LD d,(HL)`, `01 ddd 110` (41_load8.md R503). -/
def ldFromHL : R8 → Instr
  | .b => .ldBIndHL
  | .c => .ldCIndHL
  | .d => .ldDIndHL
  | .e => .ldEIndHL
  | .h => .ldHIndHL
  | .l => .ldLIndHL
  | .a => .ldAIndHL

/-- `LD (HL),s`, `01 110 sss` (41_load8.md R504). -/
def ldToHL : R8 → Instr
  | .b => .ldIndHLB
  | .c => .ldIndHLC
  | .d => .ldIndHLD
  | .e => .ldIndHLE
  | .h => .ldIndHLH
  | .l => .ldIndHLL
  | .a => .ldIndHLA

/-- `LD rr,n16`, `00 pp0 001` (42_load16.md R601). -/
def ldRP : RP → Word → Instr
  | .bc, nn => .ldBCN16 nn
  | .de, nn => .ldDEN16 nn
  | .hl, nn => .ldHLN16 nn
  | .sp, nn => .ldSPN16 nn

/-- `PUSH rr`, `11 pp0 101` (42_load16.md R605, R608). -/
def push : RP2 → Instr
  | .bc => .pushBC
  | .de => .pushDE
  | .hl => .pushHL
  | .af => .pushAF

/-- `POP rr`, `11 pp0 001` (42_load16.md R606, R607). -/
def pop : RP2 → Instr
  | .bc => .popBC
  | .de => .popDE
  | .hl => .popHL
  | .af => .popAF

/-- The register form of the 8-bit ALU, `10 yyy sss` (43_alu8.md R700). -/
def aluR : AluOp → R8 → Instr
  | .add, .b => .addAB
  | .add, .c => .addAC
  | .add, .d => .addAD
  | .add, .e => .addAE
  | .add, .h => .addAH
  | .add, .l => .addAL
  | .add, .a => .addAA
  | .adc, .b => .adcAB
  | .adc, .c => .adcAC
  | .adc, .d => .adcAD
  | .adc, .e => .adcAE
  | .adc, .h => .adcAH
  | .adc, .l => .adcAL
  | .adc, .a => .adcAA
  | .sub, .b => .subB
  | .sub, .c => .subC
  | .sub, .d => .subD
  | .sub, .e => .subE
  | .sub, .h => .subH
  | .sub, .l => .subL
  | .sub, .a => .subA
  | .sbc, .b => .sbcAB
  | .sbc, .c => .sbcAC
  | .sbc, .d => .sbcAD
  | .sbc, .e => .sbcAE
  | .sbc, .h => .sbcAH
  | .sbc, .l => .sbcAL
  | .sbc, .a => .sbcAA
  | .and, .b => .andB
  | .and, .c => .andC
  | .and, .d => .andD
  | .and, .e => .andE
  | .and, .h => .andH
  | .and, .l => .andL
  | .and, .a => .andA
  | .xor, .b => .xorB
  | .xor, .c => .xorC
  | .xor, .d => .xorD
  | .xor, .e => .xorE
  | .xor, .h => .xorH
  | .xor, .l => .xorL
  | .xor, .a => .xorA
  | .or, .b => .orB
  | .or, .c => .orC
  | .or, .d => .orD
  | .or, .e => .orE
  | .or, .h => .orH
  | .or, .l => .orL
  | .or, .a => .orA
  | .cp, .b => .cpB
  | .cp, .c => .cpC
  | .cp, .d => .cpD
  | .cp, .e => .cpE
  | .cp, .h => .cpH
  | .cp, .l => .cpL
  | .cp, .a => .cpA

/-- The (HL) form of the 8-bit ALU, `10 yyy 110` (43_alu8.md R700). -/
def aluHL : AluOp → Instr
  | .add => .addAIndHL
  | .adc => .adcAIndHL
  | .sub => .subIndHL
  | .sbc => .sbcAIndHL
  | .and => .andIndHL
  | .xor => .xorIndHL
  | .or => .orIndHL
  | .cp => .cpIndHL

/-- The immediate form of the 8-bit ALU, `11 yyy 110 n8` (43_alu8.md R700). -/
def aluN : AluOp → Byte → Instr
  | .add, n => .addAN8 n
  | .adc, n => .adcAN8 n
  | .sub, n => .subN8 n
  | .sbc, n => .sbcAN8 n
  | .and, n => .andN8 n
  | .xor, n => .xorN8 n
  | .or, n => .orN8 n
  | .cp, n => .cpN8 n

/-- `INC r`, `00 ddd 100` (43_alu8.md R727). -/
def incR : R8 → Instr
  | .b => .incB
  | .c => .incC
  | .d => .incD
  | .e => .incE
  | .h => .incH
  | .l => .incL
  | .a => .incA

/-- `DEC r`, `00 ddd 101` (43_alu8.md R729). -/
def decR : R8 → Instr
  | .b => .decB
  | .c => .decC
  | .d => .decD
  | .e => .decE
  | .h => .decH
  | .l => .decL
  | .a => .decA

/-- `ADD HL,rr`, `00 pp1 001` (44_alu16.md R801). -/
def addHL : RP → Instr
  | .bc => .addHLBC
  | .de => .addHLDE
  | .hl => .addHLHL
  | .sp => .addHLSP

/-- `INC rr`, `00 pp0 011` (44_alu16.md R802). -/
def incRP : RP → Instr
  | .bc => .incBC
  | .de => .incDE
  | .hl => .incHL
  | .sp => .incSP

/-- `DEC rr`, `00 pp1 011` (44_alu16.md R803). -/
def decRP : RP → Instr
  | .bc => .decBC
  | .de => .decDE
  | .hl => .decHL
  | .sp => .decSP

/-- The CB rotates and shifts of a register, CB `00 yyy zzz` (45_rotate_shift_bit.md R905..R919). -/
def rotR : RotOp → R8 → Instr
  | .rlc, .b => .rlcB
  | .rlc, .c => .rlcC
  | .rlc, .d => .rlcD
  | .rlc, .e => .rlcE
  | .rlc, .h => .rlcH
  | .rlc, .l => .rlcL
  | .rlc, .a => .rlcA
  | .rrc, .b => .rrcB
  | .rrc, .c => .rrcC
  | .rrc, .d => .rrcD
  | .rrc, .e => .rrcE
  | .rrc, .h => .rrcH
  | .rrc, .l => .rrcL
  | .rrc, .a => .rrcA
  | .rl, .b => .rlB
  | .rl, .c => .rlC
  | .rl, .d => .rlD
  | .rl, .e => .rlE
  | .rl, .h => .rlH
  | .rl, .l => .rlL
  | .rl, .a => .rlA
  | .rr, .b => .rrB
  | .rr, .c => .rrC
  | .rr, .d => .rrD
  | .rr, .e => .rrE
  | .rr, .h => .rrH
  | .rr, .l => .rrL
  | .rr, .a => .rrA
  | .sla, .b => .slaB
  | .sla, .c => .slaC
  | .sla, .d => .slaD
  | .sla, .e => .slaE
  | .sla, .h => .slaH
  | .sla, .l => .slaL
  | .sla, .a => .slaA
  | .sra, .b => .sraB
  | .sra, .c => .sraC
  | .sra, .d => .sraD
  | .sra, .e => .sraE
  | .sra, .h => .sraH
  | .sra, .l => .sraL
  | .sra, .a => .sraA
  | .swap, .b => .swapB
  | .swap, .c => .swapC
  | .swap, .d => .swapD
  | .swap, .e => .swapE
  | .swap, .h => .swapH
  | .swap, .l => .swapL
  | .swap, .a => .swapA
  | .srl, .b => .srlB
  | .srl, .c => .srlC
  | .srl, .d => .srlD
  | .srl, .e => .srlE
  | .srl, .h => .srlH
  | .srl, .l => .srlL
  | .srl, .a => .srlA

/-- The CB rotates and shifts of (HL), CB `00 yyy 110` (45_rotate_shift_bit.md R906..R920). -/
def rotHL : RotOp → Instr
  | .rlc => .rlcIndHL
  | .rrc => .rrcIndHL
  | .rl => .rlIndHL
  | .rr => .rrIndHL
  | .sla => .slaIndHL
  | .sra => .sraIndHL
  | .swap => .swapIndHL
  | .srl => .srlIndHL

/-- `BIT b,r`, CB `01 bbb zzz` (45_rotate_shift_bit.md R921). -/
def bitR : BitNo → R8 → Instr
  | .b0, .b => .bit0B
  | .b0, .c => .bit0C
  | .b0, .d => .bit0D
  | .b0, .e => .bit0E
  | .b0, .h => .bit0H
  | .b0, .l => .bit0L
  | .b0, .a => .bit0A
  | .b1, .b => .bit1B
  | .b1, .c => .bit1C
  | .b1, .d => .bit1D
  | .b1, .e => .bit1E
  | .b1, .h => .bit1H
  | .b1, .l => .bit1L
  | .b1, .a => .bit1A
  | .b2, .b => .bit2B
  | .b2, .c => .bit2C
  | .b2, .d => .bit2D
  | .b2, .e => .bit2E
  | .b2, .h => .bit2H
  | .b2, .l => .bit2L
  | .b2, .a => .bit2A
  | .b3, .b => .bit3B
  | .b3, .c => .bit3C
  | .b3, .d => .bit3D
  | .b3, .e => .bit3E
  | .b3, .h => .bit3H
  | .b3, .l => .bit3L
  | .b3, .a => .bit3A
  | .b4, .b => .bit4B
  | .b4, .c => .bit4C
  | .b4, .d => .bit4D
  | .b4, .e => .bit4E
  | .b4, .h => .bit4H
  | .b4, .l => .bit4L
  | .b4, .a => .bit4A
  | .b5, .b => .bit5B
  | .b5, .c => .bit5C
  | .b5, .d => .bit5D
  | .b5, .e => .bit5E
  | .b5, .h => .bit5H
  | .b5, .l => .bit5L
  | .b5, .a => .bit5A
  | .b6, .b => .bit6B
  | .b6, .c => .bit6C
  | .b6, .d => .bit6D
  | .b6, .e => .bit6E
  | .b6, .h => .bit6H
  | .b6, .l => .bit6L
  | .b6, .a => .bit6A
  | .b7, .b => .bit7B
  | .b7, .c => .bit7C
  | .b7, .d => .bit7D
  | .b7, .e => .bit7E
  | .b7, .h => .bit7H
  | .b7, .l => .bit7L
  | .b7, .a => .bit7A

/-- `BIT b,(HL)`, CB `01 bbb 110` (45_rotate_shift_bit.md R922). -/
def bitHL : BitNo → Instr
  | .b0 => .bit0IndHL
  | .b1 => .bit1IndHL
  | .b2 => .bit2IndHL
  | .b3 => .bit3IndHL
  | .b4 => .bit4IndHL
  | .b5 => .bit5IndHL
  | .b6 => .bit6IndHL
  | .b7 => .bit7IndHL

/-- `RES b,r`, CB `10 bbb zzz` (45_rotate_shift_bit.md R923). -/
def resR : BitNo → R8 → Instr
  | .b0, .b => .res0B
  | .b0, .c => .res0C
  | .b0, .d => .res0D
  | .b0, .e => .res0E
  | .b0, .h => .res0H
  | .b0, .l => .res0L
  | .b0, .a => .res0A
  | .b1, .b => .res1B
  | .b1, .c => .res1C
  | .b1, .d => .res1D
  | .b1, .e => .res1E
  | .b1, .h => .res1H
  | .b1, .l => .res1L
  | .b1, .a => .res1A
  | .b2, .b => .res2B
  | .b2, .c => .res2C
  | .b2, .d => .res2D
  | .b2, .e => .res2E
  | .b2, .h => .res2H
  | .b2, .l => .res2L
  | .b2, .a => .res2A
  | .b3, .b => .res3B
  | .b3, .c => .res3C
  | .b3, .d => .res3D
  | .b3, .e => .res3E
  | .b3, .h => .res3H
  | .b3, .l => .res3L
  | .b3, .a => .res3A
  | .b4, .b => .res4B
  | .b4, .c => .res4C
  | .b4, .d => .res4D
  | .b4, .e => .res4E
  | .b4, .h => .res4H
  | .b4, .l => .res4L
  | .b4, .a => .res4A
  | .b5, .b => .res5B
  | .b5, .c => .res5C
  | .b5, .d => .res5D
  | .b5, .e => .res5E
  | .b5, .h => .res5H
  | .b5, .l => .res5L
  | .b5, .a => .res5A
  | .b6, .b => .res6B
  | .b6, .c => .res6C
  | .b6, .d => .res6D
  | .b6, .e => .res6E
  | .b6, .h => .res6H
  | .b6, .l => .res6L
  | .b6, .a => .res6A
  | .b7, .b => .res7B
  | .b7, .c => .res7C
  | .b7, .d => .res7D
  | .b7, .e => .res7E
  | .b7, .h => .res7H
  | .b7, .l => .res7L
  | .b7, .a => .res7A

/-- `RES b,(HL)`, CB `10 bbb 110` (45_rotate_shift_bit.md R924). -/
def resHL : BitNo → Instr
  | .b0 => .res0IndHL
  | .b1 => .res1IndHL
  | .b2 => .res2IndHL
  | .b3 => .res3IndHL
  | .b4 => .res4IndHL
  | .b5 => .res5IndHL
  | .b6 => .res6IndHL
  | .b7 => .res7IndHL

/-- `SET b,r`, CB `11 bbb zzz` (45_rotate_shift_bit.md R925). -/
def setR : BitNo → R8 → Instr
  | .b0, .b => .set0B
  | .b0, .c => .set0C
  | .b0, .d => .set0D
  | .b0, .e => .set0E
  | .b0, .h => .set0H
  | .b0, .l => .set0L
  | .b0, .a => .set0A
  | .b1, .b => .set1B
  | .b1, .c => .set1C
  | .b1, .d => .set1D
  | .b1, .e => .set1E
  | .b1, .h => .set1H
  | .b1, .l => .set1L
  | .b1, .a => .set1A
  | .b2, .b => .set2B
  | .b2, .c => .set2C
  | .b2, .d => .set2D
  | .b2, .e => .set2E
  | .b2, .h => .set2H
  | .b2, .l => .set2L
  | .b2, .a => .set2A
  | .b3, .b => .set3B
  | .b3, .c => .set3C
  | .b3, .d => .set3D
  | .b3, .e => .set3E
  | .b3, .h => .set3H
  | .b3, .l => .set3L
  | .b3, .a => .set3A
  | .b4, .b => .set4B
  | .b4, .c => .set4C
  | .b4, .d => .set4D
  | .b4, .e => .set4E
  | .b4, .h => .set4H
  | .b4, .l => .set4L
  | .b4, .a => .set4A
  | .b5, .b => .set5B
  | .b5, .c => .set5C
  | .b5, .d => .set5D
  | .b5, .e => .set5E
  | .b5, .h => .set5H
  | .b5, .l => .set5L
  | .b5, .a => .set5A
  | .b6, .b => .set6B
  | .b6, .c => .set6C
  | .b6, .d => .set6D
  | .b6, .e => .set6E
  | .b6, .h => .set6H
  | .b6, .l => .set6L
  | .b6, .a => .set6A
  | .b7, .b => .set7B
  | .b7, .c => .set7C
  | .b7, .d => .set7D
  | .b7, .e => .set7E
  | .b7, .h => .set7H
  | .b7, .l => .set7L
  | .b7, .a => .set7A

/-- `SET b,(HL)`, CB `11 bbb 110` (45_rotate_shift_bit.md R926). -/
def setHL : BitNo → Instr
  | .b0 => .set0IndHL
  | .b1 => .set1IndHL
  | .b2 => .set2IndHL
  | .b3 => .set3IndHL
  | .b4 => .set4IndHL
  | .b5 => .set5IndHL
  | .b6 => .set6IndHL
  | .b7 => .set7IndHL

/-- `JP cc,n16`, `11 0cc 010` (46_control.md R1002). -/
def jpCond : Cond → Word → Instr
  | .nz, nn => .jpNZN16 nn
  | .z, nn => .jpZN16 nn
  | .nc, nn => .jpNCN16 nn
  | .c, nn => .jpCN16 nn

/-- `JR cc,e8`, `00 1cc 000` (46_control.md R1005). -/
def jrCond : Cond → Byte → Instr
  | .nz, e => .jrNZE8 e
  | .z, e => .jrZE8 e
  | .nc, e => .jrNCE8 e
  | .c, e => .jrCE8 e

/-- `CALL cc,n16`, `11 0cc 100` (46_control.md R1007). -/
def callCond : Cond → Word → Instr
  | .nz, nn => .callNZN16 nn
  | .z, nn => .callZN16 nn
  | .nc, nn => .callNCN16 nn
  | .c, nn => .callCN16 nn

/-- `RET cc`, `11 0cc 000` (46_control.md R1011). -/
def retCond : Cond → Instr
  | .nz => .retNZ
  | .z => .retZ
  | .nc => .retNC
  | .c => .retC

/-- `RST t`, `11 ttt 111` (46_control.md R1010). -/
def rst : RstNo → Instr
  | .t0 => .rst00
  | .t1 => .rst08
  | .t2 => .rst10
  | .t3 => .rst18
  | .t4 => .rst20
  | .t5 => .rst28
  | .t6 => .rst30
  | .t7 => .rst38

/-- The unassigned base opcodes with their bytes (30_encoding.md R311). -/
def unassigned : List (Byte × Instr) :=
  [(0xD3, .unassignedD3),
   (0xDB, .unassignedDB),
   (0xDD, .unassignedDD),
   (0xE3, .unassignedE3),
   (0xE4, .unassignedE4),
   (0xEB, .unassignedEB),
   (0xEC, .unassignedEC),
   (0xED, .unassignedED),
   (0xF4, .unassignedF4),
   (0xFC, .unassignedFC),
   (0xFD, .unassignedFD)]

end Instr

end Sys2Proof
end

