-- ==== Sys2Proof/WellFormed.lean ====
section
/-! DEFINITION. Which terms of Instr are instructions in the form the decoder gives them. Immediates are of the exact width of
their field (30_encoding.md R301), so the one check is the prefix's. -/

namespace Sys2Proof

/-- 0xCB "is not an instruction" (30_encoding.md R313): the two bytes 0xCB, sub are the CB instruction of `sub`, which has a
constructor of its own, so the term `prefixCb sub` is a second name for its words and never what decoding gives. -/
def Instr.wf : Instr → Bool
  | .prefixCb _ => false
  | _ => true

end Sys2Proof
end

