-- ==== Sys2Proof/Decode.lean ====
section
/-! DEFINITION. The decoder, total on any bytes and rejecting by name (30_encoding.md R300..R313), and after it the encoder. -/

namespace Sys2Proof

/-! ### Byte order -/

/-- `hi:lo` (00_scope.md R13). -/
def wordOf (hi lo : Byte) : Word := hi ++ lo

/-- Bits 7..0 of a word. -/
def loByte (v : Word) : Byte := v.extractLsb' 0 8

/-- Bits 15..8 of a word. -/
def hiByte (v : Word) : Byte := v.extractLsb' 8 8

/-! ### The two tables -/

/-- A base-table descriptor (00_scope.md R20): the instruction, waiting for its immediate if the format has one (R301). -/
inductive Descriptor where
  | op (i : Instr)
  | n8 (f : Byte → Instr)
  | n16 (f : Word → Instr)

/-- The base opcode map, one row per high nibble (30_encoding.md R309). The cell of 0xCB is the prefix with the sub-opcode
that follows it; STOP's second byte is kept uninterpreted (R301, `op_stop`). -/
def baseRow0 : List Descriptor :=
  [.op .nop, .n16 .ldBCN16, .op .ldIndBCA, .op .incBC, .op .incB, .op .decB, .n8 .ldBN8, .op .rlca,
   .n16 .ldIndN16SP, .op .addHLBC, .op .ldAIndBC, .op .decBC, .op .incC, .op .decC, .n8 .ldCN8, .op .rrca]

def baseRow1 : List Descriptor :=
  [.n8 .stop, .n16 .ldDEN16, .op .ldIndDEA, .op .incDE, .op .incD, .op .decD, .n8 .ldDN8, .op .rla,
   .n8 .jrE8, .op .addHLDE, .op .ldAIndDE, .op .decDE, .op .incE, .op .decE, .n8 .ldEN8, .op .rra]

def baseRow2 : List Descriptor :=
  [.n8 .jrNZE8, .n16 .ldHLN16, .op .ldIndHLIncA, .op .incHL, .op .incH, .op .decH, .n8 .ldHN8, .op .daa,
   .n8 .jrZE8, .op .addHLHL, .op .ldAIndHLInc, .op .decHL, .op .incL, .op .decL, .n8 .ldLN8, .op .cpl]

def baseRow3 : List Descriptor :=
  [.n8 .jrNCE8, .n16 .ldSPN16, .op .ldIndHLDecA, .op .incSP, .op .incIndHL, .op .decIndHL, .n8 .ldIndHLN8, .op .scf,
   .n8 .jrCE8, .op .addHLSP, .op .ldAIndHLDec, .op .decSP, .op .incA, .op .decA, .n8 .ldAN8, .op .ccf]

def baseRow4 : List Descriptor :=
  [.op .ldBB, .op .ldBC, .op .ldBD, .op .ldBE, .op .ldBH, .op .ldBL, .op .ldBIndHL, .op .ldBA,
   .op .ldCB, .op .ldCC, .op .ldCD, .op .ldCE, .op .ldCH, .op .ldCL, .op .ldCIndHL, .op .ldCA]

def baseRow5 : List Descriptor :=
  [.op .ldDB, .op .ldDC, .op .ldDD, .op .ldDE, .op .ldDH, .op .ldDL, .op .ldDIndHL, .op .ldDA,
   .op .ldEB, .op .ldEC, .op .ldED, .op .ldEE, .op .ldEH, .op .ldEL, .op .ldEIndHL, .op .ldEA]

def baseRow6 : List Descriptor :=
  [.op .ldHB, .op .ldHC, .op .ldHD, .op .ldHE, .op .ldHH, .op .ldHL, .op .ldHIndHL, .op .ldHA,
   .op .ldLB, .op .ldLC, .op .ldLD, .op .ldLE, .op .ldLH, .op .ldLL, .op .ldLIndHL, .op .ldLA]

def baseRow7 : List Descriptor :=
  [.op .ldIndHLB, .op .ldIndHLC, .op .ldIndHLD, .op .ldIndHLE, .op .ldIndHLH, .op .ldIndHLL, .op .halt, .op .ldIndHLA,
   .op .ldAB, .op .ldAC, .op .ldAD, .op .ldAE, .op .ldAH, .op .ldAL, .op .ldAIndHL, .op .ldAA]

def baseRow8 : List Descriptor :=
  [.op .addAB, .op .addAC, .op .addAD, .op .addAE, .op .addAH, .op .addAL, .op .addAIndHL, .op .addAA,
   .op .adcAB, .op .adcAC, .op .adcAD, .op .adcAE, .op .adcAH, .op .adcAL, .op .adcAIndHL, .op .adcAA]

def baseRow9 : List Descriptor :=
  [.op .subB, .op .subC, .op .subD, .op .subE, .op .subH, .op .subL, .op .subIndHL, .op .subA,
   .op .sbcAB, .op .sbcAC, .op .sbcAD, .op .sbcAE, .op .sbcAH, .op .sbcAL, .op .sbcAIndHL, .op .sbcAA]

def baseRowA : List Descriptor :=
  [.op .andB, .op .andC, .op .andD, .op .andE, .op .andH, .op .andL, .op .andIndHL, .op .andA,
   .op .xorB, .op .xorC, .op .xorD, .op .xorE, .op .xorH, .op .xorL, .op .xorIndHL, .op .xorA]

def baseRowB : List Descriptor :=
  [.op .orB, .op .orC, .op .orD, .op .orE, .op .orH, .op .orL, .op .orIndHL, .op .orA,
   .op .cpB, .op .cpC, .op .cpD, .op .cpE, .op .cpH, .op .cpL, .op .cpIndHL, .op .cpA]

def baseRowC : List Descriptor :=
  [.op .retNZ, .op .popBC, .n16 .jpNZN16, .n16 .jpN16, .n16 .callNZN16, .op .pushBC, .n8 .addAN8, .op .rst00,
   .op .retZ, .op .ret, .n16 .jpZN16, .n8 .prefixCb, .n16 .callZN16, .n16 .callN16, .n8 .adcAN8, .op .rst08]

def baseRowD : List Descriptor :=
  [.op .retNC, .op .popDE, .n16 .jpNCN16, .op .unassignedD3, .n16 .callNCN16, .op .pushDE, .n8 .subN8, .op .rst10,
   .op .retC, .op .reti, .n16 .jpCN16, .op .unassignedDB, .n16 .callCN16, .op .unassignedDD, .n8 .sbcAN8, .op .rst18]

def baseRowE : List Descriptor :=
  [.n8 .ldhIndN8A, .op .popHL, .op .ldIndCA, .op .unassignedE3, .op .unassignedE4, .op .pushHL, .n8 .andN8, .op .rst20,
   .n8 .addSPE8, .op .jpHL, .n16 .ldIndN16A, .op .unassignedEB, .op .unassignedEC, .op .unassignedED, .n8 .xorN8, .op .rst28]

def baseRowF : List Descriptor :=
  [.n8 .ldhAIndN8, .op .popAF, .op .ldAIndC, .op .di, .op .unassignedF4, .op .pushAF, .n8 .orN8, .op .rst30,
   .n8 .ldHLSPE8, .op .ldSPHL, .n16 .ldAIndN16, .op .ei, .op .unassignedFC, .op .unassignedFD, .n8 .cpN8, .op .rst38]

/-- The base table by high nibble, then low nibble (30_encoding.md R309). -/
def baseTable : List (List Descriptor) :=
  [baseRow0, baseRow1, baseRow2, baseRow3, baseRow4, baseRow5, baseRow6, baseRow7, baseRow8, baseRow9, baseRowA, baseRowB, baseRowC, baseRowD, baseRowE, baseRowF]

/-- The CB-extended map, one row per high nibble (30_encoding.md R310). -/
def cbRow0 : List Instr :=
  [.rlcB, .rlcC, .rlcD, .rlcE, .rlcH, .rlcL, .rlcIndHL, .rlcA,
   .rrcB, .rrcC, .rrcD, .rrcE, .rrcH, .rrcL, .rrcIndHL, .rrcA]

def cbRow1 : List Instr :=
  [.rlB, .rlC, .rlD, .rlE, .rlH, .rlL, .rlIndHL, .rlA,
   .rrB, .rrC, .rrD, .rrE, .rrH, .rrL, .rrIndHL, .rrA]

def cbRow2 : List Instr :=
  [.slaB, .slaC, .slaD, .slaE, .slaH, .slaL, .slaIndHL, .slaA,
   .sraB, .sraC, .sraD, .sraE, .sraH, .sraL, .sraIndHL, .sraA]

def cbRow3 : List Instr :=
  [.swapB, .swapC, .swapD, .swapE, .swapH, .swapL, .swapIndHL, .swapA,
   .srlB, .srlC, .srlD, .srlE, .srlH, .srlL, .srlIndHL, .srlA]

def cbRow4 : List Instr :=
  [.bit0B, .bit0C, .bit0D, .bit0E, .bit0H, .bit0L, .bit0IndHL, .bit0A,
   .bit1B, .bit1C, .bit1D, .bit1E, .bit1H, .bit1L, .bit1IndHL, .bit1A]

def cbRow5 : List Instr :=
  [.bit2B, .bit2C, .bit2D, .bit2E, .bit2H, .bit2L, .bit2IndHL, .bit2A,
   .bit3B, .bit3C, .bit3D, .bit3E, .bit3H, .bit3L, .bit3IndHL, .bit3A]

def cbRow6 : List Instr :=
  [.bit4B, .bit4C, .bit4D, .bit4E, .bit4H, .bit4L, .bit4IndHL, .bit4A,
   .bit5B, .bit5C, .bit5D, .bit5E, .bit5H, .bit5L, .bit5IndHL, .bit5A]

def cbRow7 : List Instr :=
  [.bit6B, .bit6C, .bit6D, .bit6E, .bit6H, .bit6L, .bit6IndHL, .bit6A,
   .bit7B, .bit7C, .bit7D, .bit7E, .bit7H, .bit7L, .bit7IndHL, .bit7A]

def cbRow8 : List Instr :=
  [.res0B, .res0C, .res0D, .res0E, .res0H, .res0L, .res0IndHL, .res0A,
   .res1B, .res1C, .res1D, .res1E, .res1H, .res1L, .res1IndHL, .res1A]

def cbRow9 : List Instr :=
  [.res2B, .res2C, .res2D, .res2E, .res2H, .res2L, .res2IndHL, .res2A,
   .res3B, .res3C, .res3D, .res3E, .res3H, .res3L, .res3IndHL, .res3A]

def cbRowA : List Instr :=
  [.res4B, .res4C, .res4D, .res4E, .res4H, .res4L, .res4IndHL, .res4A,
   .res5B, .res5C, .res5D, .res5E, .res5H, .res5L, .res5IndHL, .res5A]

def cbRowB : List Instr :=
  [.res6B, .res6C, .res6D, .res6E, .res6H, .res6L, .res6IndHL, .res6A,
   .res7B, .res7C, .res7D, .res7E, .res7H, .res7L, .res7IndHL, .res7A]

def cbRowC : List Instr :=
  [.set0B, .set0C, .set0D, .set0E, .set0H, .set0L, .set0IndHL, .set0A,
   .set1B, .set1C, .set1D, .set1E, .set1H, .set1L, .set1IndHL, .set1A]

def cbRowD : List Instr :=
  [.set2B, .set2C, .set2D, .set2E, .set2H, .set2L, .set2IndHL, .set2A,
   .set3B, .set3C, .set3D, .set3E, .set3H, .set3L, .set3IndHL, .set3A]

def cbRowE : List Instr :=
  [.set4B, .set4C, .set4D, .set4E, .set4H, .set4L, .set4IndHL, .set4A,
   .set5B, .set5C, .set5D, .set5E, .set5H, .set5L, .set5IndHL, .set5A]

def cbRowF : List Instr :=
  [.set6B, .set6C, .set6D, .set6E, .set6H, .set6L, .set6IndHL, .set6A,
   .set7B, .set7C, .set7D, .set7E, .set7H, .set7L, .set7IndHL, .set7A]

/-- The CB table by high nibble, then low nibble (30_encoding.md R310). -/
def cbTable : List (List Instr) :=
  [cbRow0, cbRow1, cbRow2, cbRow3, cbRow4, cbRow5, cbRow6, cbRow7, cbRow8, cbRow9, cbRowA, cbRowB, cbRowC, cbRowD, cbRowE, cbRowF]

/-- The base table's descriptor of an opcode byte; every byte has one (Laws/Decode.lean). -/
def baseDescriptor (op : Byte) : Descriptor :=
  ((baseTable.getD (op.toNat / 16) []).getD (op.toNat % 16) (.op .nop))

/-- The CB table's instruction of a sub-opcode; every byte has one (Laws/Decode.lean). -/
def cbInstr (sub : Byte) : Instr :=
  ((cbTable.getD (sub.toNat / 16) []).getD (sub.toNat % 16) .nop)

/-! ### Decoding -/

/-- Why bytes do not decode: they end too soon. Every opcode byte has a descriptor (30_encoding.md R313). -/
inductive DecodeError where
  | noOpcode
  | noSubOpcode
  | noImmediate
  deriving DecidableEq, Repr

/-- The base table's reading of a byte sequence: the descriptor of the first byte with its immediate, and the rest. -/
def decodeBase : List Byte → Except DecodeError (Instr × List Byte)
  | [] => .error .noOpcode
  | op :: rest =>
    match baseDescriptor op, rest with
    | .op i, rest => .ok (i, rest)
    | .n8 f, n :: rest => .ok (f n, rest)
    | .n8 _, [] => .error (if op = 0xCB then .noSubOpcode else .noImmediate)
    | .n16 f, lo :: hi :: rest => .ok (f (wordOf hi lo), rest)
    | .n16 _, _ => .error .noImmediate

/-- The prefix selects the CB table for the byte after it (30_encoding.md R313). -/
def resolvePrefix : Instr → Instr
  | .prefixCb sub => cbInstr sub
  | i => i

/-- The decoder (40_step.md R403): one instruction and the bytes after it. -/
def decode (bytes : List Byte) : Except DecodeError (Instr × List Byte) :=
  match decodeBase bytes with
  | .ok (i, rest) => .ok (resolvePrefix i, rest)
  | .error e => .error e

/-- The bytes of a table word, the bits above `nbits` zero, up to the longest instruction. A CB row's number is
`(0xCB << 8) | sub` (30_encoding.md R314), so its first byte is the high one; every other word's first byte is the low one
(log entry 11). -/
def tableBytes (nbits w : Nat) : List Byte :=
  let v := w % 2 ^ nbits
  if nbits = 16 && v / 0x100 = 0xCB then [0xCB, BitVec.ofNat 8 v, 0]
  else [BitVec.ofNat 8 v, BitVec.ofNat 8 (v / 0x100), BitVec.ofNat 8 (v / 0x10000)]

/-- The instruction of a table word. A word of 8 bits is a row of the base table, whose descriptor answers (for 0xCB that is
PREFIX CB itself, followed here by the sub-opcode 0x00); any other word is decoded whole. -/
def decodeTableWord (nbits w : Nat) : Option Instr :=
  match if nbits = 8 then decodeBase (tableBytes nbits w) else decode (tableBytes nbits w) with
  | .ok (i, _) => some i
  | .error _ => none

/-! ### Encoding -/

/-- The bytes of an instruction in address order (30_encoding.md R301, R309, R310). -/
def encode : Instr → List Byte
  | .nop => [0x00]
  | .ldBCN16 nn => [0x01, loByte nn, hiByte nn]
  | .ldIndBCA => [0x02]
  | .incBC => [0x03]
  | .incB => [0x04]
  | .decB => [0x05]
  | .ldBN8 n => [0x06, n]
  | .rlca => [0x07]
  | .ldIndN16SP nn => [0x08, loByte nn, hiByte nn]
  | .addHLBC => [0x09]
  | .ldAIndBC => [0x0A]
  | .decBC => [0x0B]
  | .incC => [0x0C]
  | .decC => [0x0D]
  | .ldCN8 n => [0x0E, n]
  | .rrca => [0x0F]
  | .stop n => [0x10, n]
  | .ldDEN16 nn => [0x11, loByte nn, hiByte nn]
  | .ldIndDEA => [0x12]
  | .incDE => [0x13]
  | .incD => [0x14]
  | .decD => [0x15]
  | .ldDN8 n => [0x16, n]
  | .rla => [0x17]
  | .jrE8 e => [0x18, e]
  | .addHLDE => [0x19]
  | .ldAIndDE => [0x1A]
  | .decDE => [0x1B]
  | .incE => [0x1C]
  | .decE => [0x1D]
  | .ldEN8 n => [0x1E, n]
  | .rra => [0x1F]
  | .jrNZE8 e => [0x20, e]
  | .ldHLN16 nn => [0x21, loByte nn, hiByte nn]
  | .ldIndHLIncA => [0x22]
  | .incHL => [0x23]
  | .incH => [0x24]
  | .decH => [0x25]
  | .ldHN8 n => [0x26, n]
  | .daa => [0x27]
  | .jrZE8 e => [0x28, e]
  | .addHLHL => [0x29]
  | .ldAIndHLInc => [0x2A]
  | .decHL => [0x2B]
  | .incL => [0x2C]
  | .decL => [0x2D]
  | .ldLN8 n => [0x2E, n]
  | .cpl => [0x2F]
  | .jrNCE8 e => [0x30, e]
  | .ldSPN16 nn => [0x31, loByte nn, hiByte nn]
  | .ldIndHLDecA => [0x32]
  | .incSP => [0x33]
  | .incIndHL => [0x34]
  | .decIndHL => [0x35]
  | .ldIndHLN8 n => [0x36, n]
  | .scf => [0x37]
  | .jrCE8 e => [0x38, e]
  | .addHLSP => [0x39]
  | .ldAIndHLDec => [0x3A]
  | .decSP => [0x3B]
  | .incA => [0x3C]
  | .decA => [0x3D]
  | .ldAN8 n => [0x3E, n]
  | .ccf => [0x3F]
  | .ldBB => [0x40]
  | .ldBC => [0x41]
  | .ldBD => [0x42]
  | .ldBE => [0x43]
  | .ldBH => [0x44]
  | .ldBL => [0x45]
  | .ldBIndHL => [0x46]
  | .ldBA => [0x47]
  | .ldCB => [0x48]
  | .ldCC => [0x49]
  | .ldCD => [0x4A]
  | .ldCE => [0x4B]
  | .ldCH => [0x4C]
  | .ldCL => [0x4D]
  | .ldCIndHL => [0x4E]
  | .ldCA => [0x4F]
  | .ldDB => [0x50]
  | .ldDC => [0x51]
  | .ldDD => [0x52]
  | .ldDE => [0x53]
  | .ldDH => [0x54]
  | .ldDL => [0x55]
  | .ldDIndHL => [0x56]
  | .ldDA => [0x57]
  | .ldEB => [0x58]
  | .ldEC => [0x59]
  | .ldED => [0x5A]
  | .ldEE => [0x5B]
  | .ldEH => [0x5C]
  | .ldEL => [0x5D]
  | .ldEIndHL => [0x5E]
  | .ldEA => [0x5F]
  | .ldHB => [0x60]
  | .ldHC => [0x61]
  | .ldHD => [0x62]
  | .ldHE => [0x63]
  | .ldHH => [0x64]
  | .ldHL => [0x65]
  | .ldHIndHL => [0x66]
  | .ldHA => [0x67]
  | .ldLB => [0x68]
  | .ldLC => [0x69]
  | .ldLD => [0x6A]
  | .ldLE => [0x6B]
  | .ldLH => [0x6C]
  | .ldLL => [0x6D]
  | .ldLIndHL => [0x6E]
  | .ldLA => [0x6F]
  | .ldIndHLB => [0x70]
  | .ldIndHLC => [0x71]
  | .ldIndHLD => [0x72]
  | .ldIndHLE => [0x73]
  | .ldIndHLH => [0x74]
  | .ldIndHLL => [0x75]
  | .halt => [0x76]
  | .ldIndHLA => [0x77]
  | .ldAB => [0x78]
  | .ldAC => [0x79]
  | .ldAD => [0x7A]
  | .ldAE => [0x7B]
  | .ldAH => [0x7C]
  | .ldAL => [0x7D]
  | .ldAIndHL => [0x7E]
  | .ldAA => [0x7F]
  | .addAB => [0x80]
  | .addAC => [0x81]
  | .addAD => [0x82]
  | .addAE => [0x83]
  | .addAH => [0x84]
  | .addAL => [0x85]
  | .addAIndHL => [0x86]
  | .addAA => [0x87]
  | .adcAB => [0x88]
  | .adcAC => [0x89]
  | .adcAD => [0x8A]
  | .adcAE => [0x8B]
  | .adcAH => [0x8C]
  | .adcAL => [0x8D]
  | .adcAIndHL => [0x8E]
  | .adcAA => [0x8F]
  | .subB => [0x90]
  | .subC => [0x91]
  | .subD => [0x92]
  | .subE => [0x93]
  | .subH => [0x94]
  | .subL => [0x95]
  | .subIndHL => [0x96]
  | .subA => [0x97]
  | .sbcAB => [0x98]
  | .sbcAC => [0x99]
  | .sbcAD => [0x9A]
  | .sbcAE => [0x9B]
  | .sbcAH => [0x9C]
  | .sbcAL => [0x9D]
  | .sbcAIndHL => [0x9E]
  | .sbcAA => [0x9F]
  | .andB => [0xA0]
  | .andC => [0xA1]
  | .andD => [0xA2]
  | .andE => [0xA3]
  | .andH => [0xA4]
  | .andL => [0xA5]
  | .andIndHL => [0xA6]
  | .andA => [0xA7]
  | .xorB => [0xA8]
  | .xorC => [0xA9]
  | .xorD => [0xAA]
  | .xorE => [0xAB]
  | .xorH => [0xAC]
  | .xorL => [0xAD]
  | .xorIndHL => [0xAE]
  | .xorA => [0xAF]
  | .orB => [0xB0]
  | .orC => [0xB1]
  | .orD => [0xB2]
  | .orE => [0xB3]
  | .orH => [0xB4]
  | .orL => [0xB5]
  | .orIndHL => [0xB6]
  | .orA => [0xB7]
  | .cpB => [0xB8]
  | .cpC => [0xB9]
  | .cpD => [0xBA]
  | .cpE => [0xBB]
  | .cpH => [0xBC]
  | .cpL => [0xBD]
  | .cpIndHL => [0xBE]
  | .cpA => [0xBF]
  | .retNZ => [0xC0]
  | .popBC => [0xC1]
  | .jpNZN16 nn => [0xC2, loByte nn, hiByte nn]
  | .jpN16 nn => [0xC3, loByte nn, hiByte nn]
  | .callNZN16 nn => [0xC4, loByte nn, hiByte nn]
  | .pushBC => [0xC5]
  | .addAN8 n => [0xC6, n]
  | .rst00 => [0xC7]
  | .retZ => [0xC8]
  | .ret => [0xC9]
  | .jpZN16 nn => [0xCA, loByte nn, hiByte nn]
  | .prefixCb sub => [0xCB, sub]
  | .callZN16 nn => [0xCC, loByte nn, hiByte nn]
  | .callN16 nn => [0xCD, loByte nn, hiByte nn]
  | .adcAN8 n => [0xCE, n]
  | .rst08 => [0xCF]
  | .retNC => [0xD0]
  | .popDE => [0xD1]
  | .jpNCN16 nn => [0xD2, loByte nn, hiByte nn]
  | .unassignedD3 => [0xD3]
  | .callNCN16 nn => [0xD4, loByte nn, hiByte nn]
  | .pushDE => [0xD5]
  | .subN8 n => [0xD6, n]
  | .rst10 => [0xD7]
  | .retC => [0xD8]
  | .reti => [0xD9]
  | .jpCN16 nn => [0xDA, loByte nn, hiByte nn]
  | .unassignedDB => [0xDB]
  | .callCN16 nn => [0xDC, loByte nn, hiByte nn]
  | .unassignedDD => [0xDD]
  | .sbcAN8 n => [0xDE, n]
  | .rst18 => [0xDF]
  | .ldhIndN8A n => [0xE0, n]
  | .popHL => [0xE1]
  | .ldIndCA => [0xE2]
  | .unassignedE3 => [0xE3]
  | .unassignedE4 => [0xE4]
  | .pushHL => [0xE5]
  | .andN8 n => [0xE6, n]
  | .rst20 => [0xE7]
  | .addSPE8 e => [0xE8, e]
  | .jpHL => [0xE9]
  | .ldIndN16A nn => [0xEA, loByte nn, hiByte nn]
  | .unassignedEB => [0xEB]
  | .unassignedEC => [0xEC]
  | .unassignedED => [0xED]
  | .xorN8 n => [0xEE, n]
  | .rst28 => [0xEF]
  | .ldhAIndN8 n => [0xF0, n]
  | .popAF => [0xF1]
  | .ldAIndC => [0xF2]
  | .di => [0xF3]
  | .unassignedF4 => [0xF4]
  | .pushAF => [0xF5]
  | .orN8 n => [0xF6, n]
  | .rst30 => [0xF7]
  | .ldHLSPE8 e => [0xF8, e]
  | .ldSPHL => [0xF9]
  | .ldAIndN16 nn => [0xFA, loByte nn, hiByte nn]
  | .ei => [0xFB]
  | .unassignedFC => [0xFC]
  | .unassignedFD => [0xFD]
  | .cpN8 n => [0xFE, n]
  | .rst38 => [0xFF]
  | .rlcB => [0xCB, 0x00]
  | .rlcC => [0xCB, 0x01]
  | .rlcD => [0xCB, 0x02]
  | .rlcE => [0xCB, 0x03]
  | .rlcH => [0xCB, 0x04]
  | .rlcL => [0xCB, 0x05]
  | .rlcIndHL => [0xCB, 0x06]
  | .rlcA => [0xCB, 0x07]
  | .rrcB => [0xCB, 0x08]
  | .rrcC => [0xCB, 0x09]
  | .rrcD => [0xCB, 0x0A]
  | .rrcE => [0xCB, 0x0B]
  | .rrcH => [0xCB, 0x0C]
  | .rrcL => [0xCB, 0x0D]
  | .rrcIndHL => [0xCB, 0x0E]
  | .rrcA => [0xCB, 0x0F]
  | .rlB => [0xCB, 0x10]
  | .rlC => [0xCB, 0x11]
  | .rlD => [0xCB, 0x12]
  | .rlE => [0xCB, 0x13]
  | .rlH => [0xCB, 0x14]
  | .rlL => [0xCB, 0x15]
  | .rlIndHL => [0xCB, 0x16]
  | .rlA => [0xCB, 0x17]
  | .rrB => [0xCB, 0x18]
  | .rrC => [0xCB, 0x19]
  | .rrD => [0xCB, 0x1A]
  | .rrE => [0xCB, 0x1B]
  | .rrH => [0xCB, 0x1C]
  | .rrL => [0xCB, 0x1D]
  | .rrIndHL => [0xCB, 0x1E]
  | .rrA => [0xCB, 0x1F]
  | .slaB => [0xCB, 0x20]
  | .slaC => [0xCB, 0x21]
  | .slaD => [0xCB, 0x22]
  | .slaE => [0xCB, 0x23]
  | .slaH => [0xCB, 0x24]
  | .slaL => [0xCB, 0x25]
  | .slaIndHL => [0xCB, 0x26]
  | .slaA => [0xCB, 0x27]
  | .sraB => [0xCB, 0x28]
  | .sraC => [0xCB, 0x29]
  | .sraD => [0xCB, 0x2A]
  | .sraE => [0xCB, 0x2B]
  | .sraH => [0xCB, 0x2C]
  | .sraL => [0xCB, 0x2D]
  | .sraIndHL => [0xCB, 0x2E]
  | .sraA => [0xCB, 0x2F]
  | .swapB => [0xCB, 0x30]
  | .swapC => [0xCB, 0x31]
  | .swapD => [0xCB, 0x32]
  | .swapE => [0xCB, 0x33]
  | .swapH => [0xCB, 0x34]
  | .swapL => [0xCB, 0x35]
  | .swapIndHL => [0xCB, 0x36]
  | .swapA => [0xCB, 0x37]
  | .srlB => [0xCB, 0x38]
  | .srlC => [0xCB, 0x39]
  | .srlD => [0xCB, 0x3A]
  | .srlE => [0xCB, 0x3B]
  | .srlH => [0xCB, 0x3C]
  | .srlL => [0xCB, 0x3D]
  | .srlIndHL => [0xCB, 0x3E]
  | .srlA => [0xCB, 0x3F]
  | .bit0B => [0xCB, 0x40]
  | .bit0C => [0xCB, 0x41]
  | .bit0D => [0xCB, 0x42]
  | .bit0E => [0xCB, 0x43]
  | .bit0H => [0xCB, 0x44]
  | .bit0L => [0xCB, 0x45]
  | .bit0IndHL => [0xCB, 0x46]
  | .bit0A => [0xCB, 0x47]
  | .bit1B => [0xCB, 0x48]
  | .bit1C => [0xCB, 0x49]
  | .bit1D => [0xCB, 0x4A]
  | .bit1E => [0xCB, 0x4B]
  | .bit1H => [0xCB, 0x4C]
  | .bit1L => [0xCB, 0x4D]
  | .bit1IndHL => [0xCB, 0x4E]
  | .bit1A => [0xCB, 0x4F]
  | .bit2B => [0xCB, 0x50]
  | .bit2C => [0xCB, 0x51]
  | .bit2D => [0xCB, 0x52]
  | .bit2E => [0xCB, 0x53]
  | .bit2H => [0xCB, 0x54]
  | .bit2L => [0xCB, 0x55]
  | .bit2IndHL => [0xCB, 0x56]
  | .bit2A => [0xCB, 0x57]
  | .bit3B => [0xCB, 0x58]
  | .bit3C => [0xCB, 0x59]
  | .bit3D => [0xCB, 0x5A]
  | .bit3E => [0xCB, 0x5B]
  | .bit3H => [0xCB, 0x5C]
  | .bit3L => [0xCB, 0x5D]
  | .bit3IndHL => [0xCB, 0x5E]
  | .bit3A => [0xCB, 0x5F]
  | .bit4B => [0xCB, 0x60]
  | .bit4C => [0xCB, 0x61]
  | .bit4D => [0xCB, 0x62]
  | .bit4E => [0xCB, 0x63]
  | .bit4H => [0xCB, 0x64]
  | .bit4L => [0xCB, 0x65]
  | .bit4IndHL => [0xCB, 0x66]
  | .bit4A => [0xCB, 0x67]
  | .bit5B => [0xCB, 0x68]
  | .bit5C => [0xCB, 0x69]
  | .bit5D => [0xCB, 0x6A]
  | .bit5E => [0xCB, 0x6B]
  | .bit5H => [0xCB, 0x6C]
  | .bit5L => [0xCB, 0x6D]
  | .bit5IndHL => [0xCB, 0x6E]
  | .bit5A => [0xCB, 0x6F]
  | .bit6B => [0xCB, 0x70]
  | .bit6C => [0xCB, 0x71]
  | .bit6D => [0xCB, 0x72]
  | .bit6E => [0xCB, 0x73]
  | .bit6H => [0xCB, 0x74]
  | .bit6L => [0xCB, 0x75]
  | .bit6IndHL => [0xCB, 0x76]
  | .bit6A => [0xCB, 0x77]
  | .bit7B => [0xCB, 0x78]
  | .bit7C => [0xCB, 0x79]
  | .bit7D => [0xCB, 0x7A]
  | .bit7E => [0xCB, 0x7B]
  | .bit7H => [0xCB, 0x7C]
  | .bit7L => [0xCB, 0x7D]
  | .bit7IndHL => [0xCB, 0x7E]
  | .bit7A => [0xCB, 0x7F]
  | .res0B => [0xCB, 0x80]
  | .res0C => [0xCB, 0x81]
  | .res0D => [0xCB, 0x82]
  | .res0E => [0xCB, 0x83]
  | .res0H => [0xCB, 0x84]
  | .res0L => [0xCB, 0x85]
  | .res0IndHL => [0xCB, 0x86]
  | .res0A => [0xCB, 0x87]
  | .res1B => [0xCB, 0x88]
  | .res1C => [0xCB, 0x89]
  | .res1D => [0xCB, 0x8A]
  | .res1E => [0xCB, 0x8B]
  | .res1H => [0xCB, 0x8C]
  | .res1L => [0xCB, 0x8D]
  | .res1IndHL => [0xCB, 0x8E]
  | .res1A => [0xCB, 0x8F]
  | .res2B => [0xCB, 0x90]
  | .res2C => [0xCB, 0x91]
  | .res2D => [0xCB, 0x92]
  | .res2E => [0xCB, 0x93]
  | .res2H => [0xCB, 0x94]
  | .res2L => [0xCB, 0x95]
  | .res2IndHL => [0xCB, 0x96]
  | .res2A => [0xCB, 0x97]
  | .res3B => [0xCB, 0x98]
  | .res3C => [0xCB, 0x99]
  | .res3D => [0xCB, 0x9A]
  | .res3E => [0xCB, 0x9B]
  | .res3H => [0xCB, 0x9C]
  | .res3L => [0xCB, 0x9D]
  | .res3IndHL => [0xCB, 0x9E]
  | .res3A => [0xCB, 0x9F]
  | .res4B => [0xCB, 0xA0]
  | .res4C => [0xCB, 0xA1]
  | .res4D => [0xCB, 0xA2]
  | .res4E => [0xCB, 0xA3]
  | .res4H => [0xCB, 0xA4]
  | .res4L => [0xCB, 0xA5]
  | .res4IndHL => [0xCB, 0xA6]
  | .res4A => [0xCB, 0xA7]
  | .res5B => [0xCB, 0xA8]
  | .res5C => [0xCB, 0xA9]
  | .res5D => [0xCB, 0xAA]
  | .res5E => [0xCB, 0xAB]
  | .res5H => [0xCB, 0xAC]
  | .res5L => [0xCB, 0xAD]
  | .res5IndHL => [0xCB, 0xAE]
  | .res5A => [0xCB, 0xAF]
  | .res6B => [0xCB, 0xB0]
  | .res6C => [0xCB, 0xB1]
  | .res6D => [0xCB, 0xB2]
  | .res6E => [0xCB, 0xB3]
  | .res6H => [0xCB, 0xB4]
  | .res6L => [0xCB, 0xB5]
  | .res6IndHL => [0xCB, 0xB6]
  | .res6A => [0xCB, 0xB7]
  | .res7B => [0xCB, 0xB8]
  | .res7C => [0xCB, 0xB9]
  | .res7D => [0xCB, 0xBA]
  | .res7E => [0xCB, 0xBB]
  | .res7H => [0xCB, 0xBC]
  | .res7L => [0xCB, 0xBD]
  | .res7IndHL => [0xCB, 0xBE]
  | .res7A => [0xCB, 0xBF]
  | .set0B => [0xCB, 0xC0]
  | .set0C => [0xCB, 0xC1]
  | .set0D => [0xCB, 0xC2]
  | .set0E => [0xCB, 0xC3]
  | .set0H => [0xCB, 0xC4]
  | .set0L => [0xCB, 0xC5]
  | .set0IndHL => [0xCB, 0xC6]
  | .set0A => [0xCB, 0xC7]
  | .set1B => [0xCB, 0xC8]
  | .set1C => [0xCB, 0xC9]
  | .set1D => [0xCB, 0xCA]
  | .set1E => [0xCB, 0xCB]
  | .set1H => [0xCB, 0xCC]
  | .set1L => [0xCB, 0xCD]
  | .set1IndHL => [0xCB, 0xCE]
  | .set1A => [0xCB, 0xCF]
  | .set2B => [0xCB, 0xD0]
  | .set2C => [0xCB, 0xD1]
  | .set2D => [0xCB, 0xD2]
  | .set2E => [0xCB, 0xD3]
  | .set2H => [0xCB, 0xD4]
  | .set2L => [0xCB, 0xD5]
  | .set2IndHL => [0xCB, 0xD6]
  | .set2A => [0xCB, 0xD7]
  | .set3B => [0xCB, 0xD8]
  | .set3C => [0xCB, 0xD9]
  | .set3D => [0xCB, 0xDA]
  | .set3E => [0xCB, 0xDB]
  | .set3H => [0xCB, 0xDC]
  | .set3L => [0xCB, 0xDD]
  | .set3IndHL => [0xCB, 0xDE]
  | .set3A => [0xCB, 0xDF]
  | .set4B => [0xCB, 0xE0]
  | .set4C => [0xCB, 0xE1]
  | .set4D => [0xCB, 0xE2]
  | .set4E => [0xCB, 0xE3]
  | .set4H => [0xCB, 0xE4]
  | .set4L => [0xCB, 0xE5]
  | .set4IndHL => [0xCB, 0xE6]
  | .set4A => [0xCB, 0xE7]
  | .set5B => [0xCB, 0xE8]
  | .set5C => [0xCB, 0xE9]
  | .set5D => [0xCB, 0xEA]
  | .set5E => [0xCB, 0xEB]
  | .set5H => [0xCB, 0xEC]
  | .set5L => [0xCB, 0xED]
  | .set5IndHL => [0xCB, 0xEE]
  | .set5A => [0xCB, 0xEF]
  | .set6B => [0xCB, 0xF0]
  | .set6C => [0xCB, 0xF1]
  | .set6D => [0xCB, 0xF2]
  | .set6E => [0xCB, 0xF3]
  | .set6H => [0xCB, 0xF4]
  | .set6L => [0xCB, 0xF5]
  | .set6IndHL => [0xCB, 0xF6]
  | .set6A => [0xCB, 0xF7]
  | .set7B => [0xCB, 0xF8]
  | .set7C => [0xCB, 0xF9]
  | .set7D => [0xCB, 0xFA]
  | .set7E => [0xCB, 0xFB]
  | .set7H => [0xCB, 0xFC]
  | .set7L => [0xCB, 0xFD]
  | .set7IndHL => [0xCB, 0xFE]
  | .set7A => [0xCB, 0xFF]

end Sys2Proof
end

