-- ==== Sys2Proof/Machine/Operands.lean ====
section
/-! DEFINITION. Every operand form over the register file: r8 (30_encoding.md R303), register pairs (R304, 10_state.md
R103), F (R101), conditions (R305) and the signed immediate (00_scope.md R14). -/

namespace Sys2Proof.Machine

open Sys2Proof

/-- `ReadR8(i)` for a register (40_step.md R414). -/
def State.r8 (s : State) : R8 → Byte
  | .b => s.b
  | .c => s.c
  | .d => s.d
  | .e => s.e
  | .h => s.h
  | .l => s.l
  | .a => s.a

/-- `WriteR8(i, v)` for a register (40_step.md R414). -/
def State.setR8 (s : State) (r : R8) (v : Byte) : State :=
  match r with
  | .b => { s with b := v }
  | .c => { s with c := v }
  | .d => { s with d := v }
  | .e => { s with e := v }
  | .h => { s with h := v }
  | .l => { s with l := v }
  | .a => { s with a := v }

/-- F: bit 7 zero, 6 negative, 5 half-carry, 4 carry, bits 3..0 zero (10_state.md R101). -/
def State.f (s : State) : Byte :=
  BitVec.ofBool s.fZ ++ BitVec.ofBool s.fN ++ BitVec.ofBool s.fH ++ BitVec.ofBool s.fC ++ (0 : BitVec 4)

/-- A write of F: bits 3..0 of the value are ignored (10_state.md R101). -/
def State.setF (s : State) (v : Byte) : State :=
  { s with fZ := v.getLsbD 7, fN := v.getLsbD 6, fH := v.getLsbD 5, fC := v.getLsbD 4 }

/-- The pairs BC, DE and HL, high register first (10_state.md R103). -/
def State.bc (s : State) : Word := wordOf s.b s.c
def State.de (s : State) : Word := wordOf s.d s.e
def State.hl (s : State) : Word := wordOf s.h s.l
/-- AF, with F synthesized (10_state.md R101, R103). -/
def State.af (s : State) : Word := wordOf s.a s.f

def State.setBC (s : State) (v : Word) : State := { s with b := hiByte v, c := loByte v }
def State.setDE (s : State) (v : Word) : State := { s with d := hiByte v, e := loByte v }
def State.setHL (s : State) (v : Word) : State := { s with h := hiByte v, l := loByte v }
def State.setSP (s : State) (v : Word) : State := { s with sp := v }
def State.setAF (s : State) (v : Word) : State := { s with a := hiByte v }.setF (loByte v)
def State.setPC (s : State) (v : Word) : State := { s with pc := v }

/-- `x[RP(p)]`, the pair BC, DE, HL or SP (40_step.md R415). -/
def State.rp (s : State) : RP → Word
  | .bc => s.bc
  | .de => s.de
  | .hl => s.hl
  | .sp => s.sp

/-- `x[RP(p)] <- v` (40_step.md R415). -/
def State.setRP (s : State) (p : RP) (v : Word) : State :=
  match p with
  | .bc => s.setBC v
  | .de => s.setDE v
  | .hl => s.setHL v
  | .sp => s.setSP v

/-- `x[RP2(p)]`, the pair BC, DE, HL or AF (40_step.md R415). -/
def State.rp2 (s : State) : RP2 → Word
  | .bc => s.bc
  | .de => s.de
  | .hl => s.hl
  | .af => s.af

/-- `x[RP2(p)] <- v` (40_step.md R415). -/
def State.setRP2 (s : State) (p : RP2) (v : Word) : State :=
  match p with
  | .bc => s.setBC v
  | .de => s.setDE v
  | .hl => s.setHL v
  | .af => s.setAF v

/-- `Cond(c)` (40_step.md R416). -/
def State.cond (s : State) : Cond → Bool
  | .nz => !s.fZ
  | .z => s.fZ
  | .nc => !s.fC
  | .c => s.fC

/-- Write all four flags. -/
def State.setFlags (s : State) (z n h c : Bool) : State := { s with fZ := z, fN := n, fH := h, fC := c }

/-- `sext_16(e)` (00_scope.md R14). -/
def sext16 (e : Byte) : Word := e.signExtend 16

/-- The high-page address `0xFF00 + n` of LDH and LD (C) (30_encoding.md R308). -/
def highPage (n : Byte) : Word := 0xFF00 + n.setWidth 16

end Sys2Proof.Machine
end

