-- ==== Sys2Proof/Machine/Ops.lean ====
section
/-! DEFINITION. The named operations every instruction uses: the address decoder (20_memory.md), fetch and stack helpers
(40_step.md R410..R413), taking an interrupt and returning from one (60_exceptions.md R1302, 46_control.md R1009), and the
stop conditions (60_exceptions.md R1330). -/

namespace Sys2Proof.Machine

open Sys2Proof

/-! ### The address decoder -/

/-- The regions of the address space (20_memory.md R201, R202). -/
inductive Region where
  | romFixed | romBanked | vram | extRam | wram0 | wram1 | echo | oam | gap | io | hram | ieSlot
  deriving DecidableEq, Repr

/-- The region of an address: total, the first matching row of 20_memory.md R201. -/
def region (addr : Word) : Region :=
  let n := addr.toNat
  if n < 0x4000 then .romFixed
  else if n < 0x8000 then .romBanked
  else if n < 0xA000 then .vram
  else if n < 0xC000 then .extRam
  else if n < 0xD000 then .wram0
  else if n < 0xE000 then .wram1
  else if n < 0xFE00 then .echo
  else if n < 0xFEA0 then .oam
  else if n < 0xFF00 then .gap
  else if n < 0xFF80 then .io
  else if n < 0xFFFF then .hram
  else .ieSlot

/-- The ROM offset that a read of 0x0000..0x7FFF comes from (20_memory.md R201, R220). -/
def romOffset (s : State) (addr : Word) : Nat :=
  if addr.toNat < 0x4000 then addr.toNat else s.romBank * 0x4000 + (addr.toNat - 0x4000)

/-- `RomRead(off)` (20_memory.md R209). -/
def romRead (s : State) (addr : Word) (offset : Nat) : Access Byte :=
  if offset < s.romLen then .ok (s.rom.read offset) s else .fault (.romOutOfRange addr offset)

/-- The ROM bank a write of `v` selects (20_memory.md R210). -/
def bankOf (v : Byte) : Nat := max 1 (v &&& 0x1F).toNat

/-- A bank-control write (20_memory.md R202, R210, R211): only 0x2000..0x3FFF acts, and only with an MBC1. -/
def bankControl (s : State) (addr : Word) (v : Byte) : State :=
  if s.hasMBC1 && 0x2000 ≤ addr.toNat && addr.toNat < 0x4000 then { s with romBank := bankOf v } else s

/-- `readByte(a)`, `MemRead(a, 1)` (20_memory.md R201); echo RAM is read at the address 0x2000 lower (R205). -/
def readByte (s : State) (addr : Word) : Access Byte :=
  match region addr with
  | .romFixed => romRead s addr (romOffset s addr)
  | .romBanked => romRead s addr (romOffset s addr)
  | .vram => .ok (s.ram.read addr.toNat) s
  | .extRam => .ok (s.ram.read addr.toNat) s
  | .wram0 => .ok (s.ram.read addr.toNat) s
  | .wram1 => .ok (s.ram.read addr.toNat) s
  | .echo => .ok (s.ram.read (addr.toNat - 0x2000)) s
  | .oam => .ok (s.ram.read addr.toNat) s
  | .gap => .ok 0x00 s
  | .io => slotRead s (.io (addr.toNat - 0xFF00))
  | .hram => .ok (s.ram.read addr.toNat) s
  | .ieSlot => slotRead s .ie

/-- The storage write of a RAM byte. -/
def ramWrite (s : State) (key : Nat) (v : Byte) : State := { s with ram := s.ram.write key v }

/-- `writeByte(a, v)`, `MemWrite(a, 1, v)` (20_memory.md R202). -/
def writeByte (s : State) (addr : Word) (v : Byte) : Access Unit :=
  match region addr with
  | .romFixed => .ok () (bankControl s addr v)
  | .romBanked => .ok () (bankControl s addr v)
  | .vram => .ok () (ramWrite s addr.toNat v)
  | .extRam => .ok () (ramWrite s addr.toNat v)
  | .wram0 => .ok () (ramWrite s addr.toNat v)
  | .wram1 => .ok () (ramWrite s addr.toNat v)
  | .echo => .ok () (ramWrite s (addr.toNat - 0x2000) v)
  | .oam => .ok () (ramWrite s addr.toNat v)
  | .gap => .ok () s
  | .io => slotWrite s (.io (addr.toNat - 0xFF00)) v
  | .hram => .ok () (ramWrite s addr.toNat v)
  | .ieSlot => slotWrite s .ie v

/-- `MemRead(a, 2)`: low byte at `a` first, then the byte at `a + 1` (20_memory.md R204). -/
def readWord (s : State) (addr : Word) : Access Word :=
  (readByte s addr).andThen fun lo s1 =>
    (readByte s1 (addr + 1)).andThen fun hi s2 => .ok (wordOf hi lo) s2

/-- `MemWrite(a, 2, v)`: low byte to `a` first, then the high byte to `a + 1` (20_memory.md R204). -/
def writeWord (s : State) (addr : Word) (v : Word) : Access Unit :=
  (writeByte s addr (loByte v)).andThen fun _ s1 => writeByte s1 (addr + 1) (hiByte v)

/-! ### The instruction stream and the stack -/

/-- `Fetch8()` (40_step.md R410). -/
def fetch8 (s : State) : Access Byte :=
  (readByte s s.pc).andThen fun v s1 => .ok v (s1.setPC (s1.pc + 1))

/-- `Fetch16()`, low byte first (40_step.md R411). -/
def fetch16 (s : State) : Access Word :=
  (fetch8 s).andThen fun lo s1 => (fetch8 s1).andThen fun hi s2 => .ok (wordOf hi lo) s2

/-- `Push16(v)`: SP goes down by 2, then the word is written at the new SP (40_step.md R412). -/
def push16 (s : State) (v : Word) : Access Unit := writeWord (s.setSP (s.sp - 2)) (s.sp - 2) v

/-- `Pop16()`: the word at SP, then SP goes up by 2 (40_step.md R413). -/
def pop16 (s : State) : Access Word :=
  (readWord s s.sp).andThen fun v s1 => .ok v (s1.setSP (s1.sp + 2))

/-! ### Interrupts -/

/-- `requestInterrupt(k)`: set bit k of IF (60_exceptions.md R1310). -/
def requestInterrupt (k : Nat) (s : State) : State := { s with ifr := s.ifr ||| bitMask k }

/-- The pending and enabled sources, bits 4..0 (60_exceptions.md R1301). -/
def pendingEnabled (s : State) : Byte := s.ifr &&& s.ie &&& 0x1F

/-- The dispatch condition (60_exceptions.md R1301). -/
def dispatchDue (s : State) : Bool := s.ime && pendingEnabled s != 0

/-- The lowest set bit of 4..0, which has the highest priority (60_exceptions.md R1303). -/
def lowestPending (p : Byte) : Nat :=
  if p.getLsbD 0 then 0 else if p.getLsbD 1 then 1 else if p.getLsbD 2 then 2 else if p.getLsbD 3 then 3 else 4

/-- `0x0040 + 8·k` (60_exceptions.md R1303). -/
def interruptVector (k : Nat) : Word := BitVec.ofNat 16 (0x40 + 8 * k)

/-- `Dispatch()`, the one way an exception is taken (60_exceptions.md R1302): clear the pending bit, clear IME, push pc, go to
the vector, leave the halted state. -/
def takeInterrupt (s : State) : Access Unit :=
  let k := lowestPending (pendingEnabled s)
  (push16 { s with ifr := s.ifr &&& ~~~bitMask k, ime := false } s.pc).andThen fun _ s1 =>
    .ok () { s1 with pc := interruptVector k, halted := false }

/-- The return from an interrupt: pop pc, set IME (46_control.md R1009). -/
def returnFromInterrupt (s : State) : Access Unit :=
  (pop16 s).andThen fun v s1 => .ok () { s1 with pc := v, ime := true }

/-! ### Stop conditions -/

/-- `Implemented(op)` (92_eei_decisions.md D2). -/
def implemented (s : State) (op : Opcode) : Bool := !s.params.unimplemented.contains op

/-- `raise Stop(reason)`: the run ends, nothing else changes (60_exceptions.md R1330, 92_eei_decisions.md D50). -/
def raiseStop (r : StopReason) (s : State) : State := { s with run := .stopped r }

/-- The effect of an opcode that `ImplementedDefault` excludes (47_system.md R1102, R1106): it stops the run. In a run whose
`Implemented` is true for it, the spec gives no effect. -/
def stopUnimplemented (op : Opcode) (s : State) : Result :=
  if implemented s op then .refused (.effectNotGiven op) else .next (raiseStop (.unimplemented op) s)

end Sys2Proof.Machine
end

