-- ==== Sys2Proof/Machine/Agents.lean ====
section
/-! DEFINITION. The external agents' ticks of a system step, as 60_exceptions.md R1320 bounds them: the choices are the
oracle's, read from `agentTicks`. -/

namespace Sys2Proof.Machine

open Sys2Proof

/-- A tick in which no agent does anything. -/
def AgentTicks.idle : AgentTicks :=
  { keypadRequests := false, dmaOps := [], timerRequests := false, serialRequests := none }

/-- The oracle's choices for the coming ticks; none left means idle agents (log entry 6). -/
def nextAgentTicks (s : State) : AgentTicks := s.agentTicks.headD AgentTicks.idle

/-- Request an interrupt if the oracle says so. -/
def requestIf (b : Bool) (k : Nat) (s : State) : State := if b then requestInterrupt k s else s

/-- `writeByte` of OAM byte `i` at 0xFE00 + i (60_exceptions.md R1320). -/
def writeOam (s : State) (i : Fin 160) (v : Byte) : Access Unit := writeByte s (BitVec.ofNat 16 (0xFE00 + i.val)) v

/-- One access of the DMA agent (60_exceptions.md R1320). -/
def dmaStep (op : DmaOp) (s : State) : Access Unit :=
  match op with
  | .read src => (readByte s src).andThen fun _ s1 => .ok () s1
  | .write i v => writeOam s i v
  | .copy src i => (readByte s src).andThen fun v s1 => writeOam s1 i v

/-- The DMA agent's accesses of one tick, in order. -/
def dmaRun : List DmaOp → State → Access Unit
  | [], s => .ok () s
  | op :: rest, s => (dmaStep op s).andThen fun _ s1 => dmaRun rest s1

/-- `keypad.tick()`: it may request bit 4, and the serial agent bit 3 during it (60_exceptions.md R1320). -/
def keypadTick (t : AgentTicks) (s : State) : State :=
  requestIf (t.serialRequests == some .inKeypad) 3 (requestIf t.keypadRequests 4 s)

/-- `dma.tick(k)`: its accesses, and the serial agent's request if it falls in this tick (60_exceptions.md R1320). -/
def dmaTick (t : AgentTicks) (s : State) : Access Unit :=
  (dmaRun t.dmaOps s).andThen fun _ s1 => .ok () (requestIf (t.serialRequests == some .inDma) 3 s1)

/-- `timer.tick(cpu, k)`: it may request bit 2, and the serial agent bit 3 during it (60_exceptions.md R1320, R1321). -/
def timerTick (t : AgentTicks) (s : State) : State :=
  requestIf (t.serialRequests == some .inTimer) 3 (requestIf t.timerRequests 2 s)

/-- keypad.tick, dma.tick, timer.tick in that order (40_step.md R420). The ticks use up the oracle's entry and the recorded
peripheral writes (20_memory.md R213, log entry 6). -/
def agentsTick (s : State) : Access Unit :=
  (dmaTick (nextAgentTicks s) (keypadTick (nextAgentTicks s) s)).andThen fun _ s1 =>
    .ok () { timerTick (nextAgentTicks s) s1 with agentTicks := s.agentTicks.drop 1, periphWrites := [] }

end Sys2Proof.Machine
end

