-- ==== Sys2Proof/Machine/Cycles.lean ====
section
/-! DEFINITION. The cycles of a system step (70_reset_and_hazards.md R1420, R1430) and the kind of a step (40_step.md R420). -/

namespace Sys2Proof.Machine

open Sys2Proof

/-- The kind of a CPU step (40_step.md R420). -/
inductive StepKind where
  | dispatch
  | haltIdle
  | instr (op : Opcode) (taken : Bool)
  deriving DecidableEq, Repr

/-- One count whether taken or not. -/
def flat (n : Nat) : Nat × Nat := (n, n)

/-- `StepCyclesDMG` of the base opcodes by high nibble, then low nibble: (taken, not taken); a cell without a count is (0, 0)
(70_reset_and_hazards.md R1430). -/
def dmgRow0 : List (Nat × Nat) := [4, 12, 8, 8, 4, 4, 8, 4, 20, 8, 8, 8, 4, 4, 8, 4].map flat
def dmgRow1 : List (Nat × Nat) := [4, 12, 8, 8, 4, 4, 8, 4, 12, 8, 8, 8, 4, 4, 8, 4].map flat
def dmgRow2 : List (Nat × Nat) :=
  (12, 8) :: [12, 8, 8, 4, 4, 8, 4].map flat ++ (12, 8) :: [8, 8, 8, 4, 4, 8, 4].map flat
def dmgRow3 : List (Nat × Nat) :=
  (12, 8) :: [12, 8, 8, 12, 12, 12, 4].map flat ++ (12, 8) :: [8, 8, 8, 4, 4, 8, 4].map flat
def dmgRow4 : List (Nat × Nat) := [4, 4, 4, 4, 4, 4, 8, 4, 4, 4, 4, 4, 4, 4, 8, 4].map flat
def dmgRow7 : List (Nat × Nat) := [8, 8, 8, 8, 8, 8, 4, 8, 4, 4, 4, 4, 4, 4, 8, 4].map flat
def dmgRowC : List (Nat × Nat) :=
  [(20, 8), flat 12, (16, 12), flat 16, (24, 12), flat 16, flat 8, flat 16,
   (20, 8), flat 16, (16, 12), flat 0, (24, 12), flat 24, flat 8, flat 16]
def dmgRowD : List (Nat × Nat) :=
  [(20, 8), flat 12, (16, 12), flat 0, (24, 12), flat 16, flat 8, flat 16,
   (20, 8), flat 16, (16, 12), flat 0, (24, 12), flat 0, flat 8, flat 16]
def dmgRowE : List (Nat × Nat) := [12, 12, 8, 0, 0, 16, 8, 16, 16, 4, 16, 0, 0, 0, 8, 16].map flat
def dmgRowF : List (Nat × Nat) := [12, 12, 8, 4, 0, 16, 8, 16, 12, 8, 16, 4, 0, 0, 8, 16].map flat

/-- The whole table (70_reset_and_hazards.md R1430); rows 4_ to 6_ and 8_ to B_ are alike. -/
def dmgTable : List (List (Nat × Nat)) :=
  [dmgRow0, dmgRow1, dmgRow2, dmgRow3, dmgRow4, dmgRow4, dmgRow4, dmgRow7, dmgRow4, dmgRow4, dmgRow4, dmgRow4,
   dmgRowC, dmgRowD, dmgRowE, dmgRowF]

/-- `StepCyclesDMG` of the CB opcodes: 8 for a register, 16 for (HL), 12 for BIT b,(HL) (70_reset_and_hazards.md R1430). -/
def dmgCb (sub : Byte) : Nat :=
  if sub.toNat % 8 ≠ 6 then 8 else if sub.toNat / 64 = 1 then 12 else 16

/-- `StepCyclesDMG` (70_reset_and_hazards.md R1430). -/
def stepCyclesDMG : StepKind → Nat
  | .dispatch => 20
  | .haltIdle => 4
  | .instr (.base op) taken =>
    let entry := (dmgTable.getD (op.toNat / 16) []).getD (op.toNat % 16) (0, 0)
    if taken then entry.1 else entry.2
  | .instr (.cb sub) _ => dmgCb sub

/-- `StepCycles` at the run's instantiation (70_reset_and_hazards.md R1420). -/
def stepCycles (c : StepCycles) (k : StepKind) : Nat :=
  match c with
  | .reference => 1
  | .dmg => stepCyclesDMG k
  | .table dispatch haltIdle base cb =>
    match k with
    | .dispatch => dispatch
    | .haltIdle => haltIdle
    | .instr (.base op) taken =>
      let entry := base.getD op.toNat (0, 0)
      if taken then entry.1 else entry.2
    | .instr (.cb sub) _ => cb.getD sub.toNat 0

/-- The condition of an opcode's field cc (30_encoding.md R305). -/
def condOfOpcode (op : Byte) : Cond := [Cond.nz, .z, .nc, .c].getD (op.toNat / 8 % 4) .nz

/-- JR cc, JP cc, CALL cc, RET cc (46_control.md R1002, R1005, R1007, R1011). -/
def conditionalOpcodes : List Byte :=
  [0x20, 0x28, 0x30, 0x38, 0xC2, 0xCA, 0xD2, 0xDA, 0xC4, 0xCC, 0xD4, 0xDC, 0xC0, 0xC8, 0xD0, 0xD8]

/-- JP, JP HL, JR, CALL, RET, RETI, RST: an unconditional transfer reports taken (46_control.md R1000). -/
def unconditionalOpcodes : List Byte :=
  [0xC3, 0xE9, 0x18, 0xCD, 0xC9, 0xD9, 0xC7, 0xCF, 0xD7, 0xDF, 0xE7, 0xEF, 0xF7, 0xFF]

/-- The `taken` bit of a step's kind, from the flags before the effect, which no branch writes (46_control.md R1000). -/
def branchTaken (op : Opcode) (s : State) : Bool :=
  match op with
  | .base b => if conditionalOpcodes.contains b then s.cond (condOfOpcode b) else unconditionalOpcodes.contains b
  | .cb _ => false

end Sys2Proof.Machine
end

