-- ==== Sys2Proof/Machine/Alu16.lean ====
section
/-! DEFINITION. 16-bit arithmetic (44_alu16.md). -/

namespace Sys2Proof.Machine

open Sys2Proof

/-- `x[HL] <- x[HL] + x[rr]` with N = 0, H from bit 11, C from bit 15, Z unchanged (R801). -/
def addToHL (p : RP) (s : State) : Result :=
  .next ((s.setHL (s.hl + s.rp p)).setFlags s.fZ false (addHalf16 s.hl (s.rp p)) (addCarry16 s.hl (s.rp p)))

/-- `x[rr] <- x[rr] + delta`, no flag (R802, R803). -/
def stepPair (p : RP) (delta : Word) (s : State) : Result := .next (s.setRP p (s.rp p + delta))

/-- `x[SP] <- x[SP] + sext_16(e)` with Z = N = 0 and the low byte's carries (R804). -/
def addToSP (e : Byte) (s : State) : Result :=
  .next ((s.setSP (s.sp + sext16 e)).setFlags false false (spHalf s.sp e) (spCarry s.sp e))

/-! ### Meanings -/

/-- INC BC, 0x03 (R802). -/
def execIncBC (s : State) : Result := stepPair .bc 1 s

/-- ADD HL,BC, 0x09 (R801). -/
def execAddHLBC (s : State) : Result := addToHL .bc s

/-- DEC BC, 0x0B (R803). -/
def execDecBC (s : State) : Result := stepPair .bc (-1) s

/-- INC DE, 0x13 (R802). -/
def execIncDE (s : State) : Result := stepPair .de 1 s

/-- ADD HL,DE, 0x19 (R801). -/
def execAddHLDE (s : State) : Result := addToHL .de s

/-- DEC DE, 0x1B (R803). -/
def execDecDE (s : State) : Result := stepPair .de (-1) s

/-- INC HL, 0x23 (R802). -/
def execIncHL (s : State) : Result := stepPair .hl 1 s

/-- ADD HL,HL, 0x29 (R801). -/
def execAddHLHL (s : State) : Result := addToHL .hl s

/-- DEC HL, 0x2B (R803). -/
def execDecHL (s : State) : Result := stepPair .hl (-1) s

/-- INC SP, 0x33 (R802). -/
def execIncSP (s : State) : Result := stepPair .sp 1 s

/-- ADD HL,SP, 0x39 (R801). -/
def execAddHLSP (s : State) : Result := addToHL .sp s

/-- DEC SP, 0x3B (R803). -/
def execDecSP (s : State) : Result := stepPair .sp (-1) s

/-- ADD SP,e8, 0xE8 (R804). -/
def execAddSPE8 (e : Byte) (s : State) : Result := addToSP e s

end Sys2Proof.Machine
end

