-- ==== Sys2Proof/Machine/Alu8.lean ====
section
/-! DEFINITION. 8-bit arithmetic and logic (43_alu8.md). -/

namespace Sys2Proof.Machine

open Sys2Proof

/-- Write all four flags of a result. -/
def State.flagged (s : State) (r : Flagged) : State := s.setFlags r.z r.n r.h r.c

/-- Write A and the four flags of a result. -/
def State.intoA (s : State) (r : Flagged) : State := (s.setR8 .a r.val).flagged r

/-- ADD: A and the flags from `Add8(x[A], x, 0)` (R703). -/
def addA (x : Byte) (s : State) : State := s.intoA (add8 s.a x false)
/-- ADC: A and the flags from `Add8(x[A], x, fC)` (R706). -/
def adcA (x : Byte) (s : State) : State := s.intoA (add8 s.a x s.fC)
/-- SUB: A and the flags from `Sub8(x[A], x, 0)` (R709). -/
def subA (x : Byte) (s : State) : State := s.intoA (sub8 s.a x false)
/-- SBC: A and the flags from `Sub8(x[A], x, fC)` (R712). -/
def sbcA (x : Byte) (s : State) : State := s.intoA (sub8 s.a x s.fC)
/-- AND (R715). -/
def andA (x : Byte) (s : State) : State := s.intoA (and8 s.a x)
/-- XOR (R718). -/
def xorA (x : Byte) (s : State) : State := s.intoA (xor8 s.a x)
/-- OR (R721). -/
def orA (x : Byte) (s : State) : State := s.intoA (or8 s.a x)
/-- CP: the flags of `Sub8(x[A], x, 0)`, A unchanged (R724). -/
def cpA (x : Byte) (s : State) : State := s.flagged (sub8 s.a x false)

/-- The register form of an operation on A (R700). -/
def withReg (f : Byte → State → State) (r : R8) (s : State) : Result := .next (f (s.r8 r) s)

/-- The (HL) form of an operation on A (R700). -/
def withHL (f : Byte → State → State) (s : State) : Result := (readByte s s.hl).finish fun x s1 => .next (f x s1)

/-- The immediate form of an operation on A (R700). -/
def withImm (f : Byte → State → State) (n : Byte) (s : State) : Result := .next (f n s)

/-- INC r or DEC r: the register and Z, N, H; C passes through (R727, R729). -/
def modifyReg (f : Byte → Bool → Flagged) (r : R8) (s : State) : Result :=
  .next ((s.setR8 r (f (s.r8 r) s.fC).val).flagged (f (s.r8 r) s.fC))

/-- INC (HL) or DEC (HL): one read, then one write of the same address, then the flags (R728, R730). -/
def modifyHL (f : Byte → Bool → Flagged) (s : State) : Result :=
  (readByte s s.hl).finish fun o s1 =>
    (writeByte s1 s1.hl (f o s1.fC).val).finish fun _ s2 => .next (s2.flagged (f o s2.fC))

/-- DAA (R731). -/
def decimalAdjust (s : State) : Result := .next (s.intoA (daa8 s.a s.fN s.fH s.fC))

/-- CPL: A complemented, N = H = 1, Z and C unchanged (R732). -/
def complementA (s : State) : Result := .next { s with a := s.a ^^^ 0xFF, fN := true, fH := true }

/-- SCF: N = H = 0, C = 1, Z unchanged (R733). -/
def setCarry (s : State) : Result := .next { s with fN := false, fH := false, fC := true }

/-- CCF: N = H = 0, C inverted, Z unchanged (R734). -/
def complementCarry (s : State) : Result := .next { s with fN := false, fH := false, fC := !s.fC }

/-! ### Meanings -/

/-- INC B, 0x04 (R727). -/
def execIncB (s : State) : Result := modifyReg inc8 .b s

/-- DEC B, 0x05 (R729). -/
def execDecB (s : State) : Result := modifyReg dec8 .b s

/-- INC C, 0x0C (R727). -/
def execIncC (s : State) : Result := modifyReg inc8 .c s

/-- DEC C, 0x0D (R729). -/
def execDecC (s : State) : Result := modifyReg dec8 .c s

/-- INC D, 0x14 (R727). -/
def execIncD (s : State) : Result := modifyReg inc8 .d s

/-- DEC D, 0x15 (R729). -/
def execDecD (s : State) : Result := modifyReg dec8 .d s

/-- INC E, 0x1C (R727). -/
def execIncE (s : State) : Result := modifyReg inc8 .e s

/-- DEC E, 0x1D (R729). -/
def execDecE (s : State) : Result := modifyReg dec8 .e s

/-- INC H, 0x24 (R727). -/
def execIncH (s : State) : Result := modifyReg inc8 .h s

/-- DEC H, 0x25 (R729). -/
def execDecH (s : State) : Result := modifyReg dec8 .h s

/-- DAA, 0x27 (R731). -/
def execDaa (s : State) : Result := decimalAdjust s

/-- INC L, 0x2C (R727). -/
def execIncL (s : State) : Result := modifyReg inc8 .l s

/-- DEC L, 0x2D (R729). -/
def execDecL (s : State) : Result := modifyReg dec8 .l s

/-- CPL, 0x2F (R732). -/
def execCpl (s : State) : Result := complementA s

/-- INC (HL), 0x34 (R728). -/
def execIncIndHL (s : State) : Result := modifyHL inc8 s

/-- DEC (HL), 0x35 (R730). -/
def execDecIndHL (s : State) : Result := modifyHL dec8 s

/-- SCF, 0x37 (R733). -/
def execScf (s : State) : Result := setCarry s

/-- INC A, 0x3C (R727). -/
def execIncA (s : State) : Result := modifyReg inc8 .a s

/-- DEC A, 0x3D (R729). -/
def execDecA (s : State) : Result := modifyReg dec8 .a s

/-- CCF, 0x3F (R734). -/
def execCcf (s : State) : Result := complementCarry s

/-- ADD A,B, 0x80 (R703). -/
def execAddAB (s : State) : Result := withReg addA .b s

/-- ADD A,C, 0x81 (R703). -/
def execAddAC (s : State) : Result := withReg addA .c s

/-- ADD A,D, 0x82 (R703). -/
def execAddAD (s : State) : Result := withReg addA .d s

/-- ADD A,E, 0x83 (R703). -/
def execAddAE (s : State) : Result := withReg addA .e s

/-- ADD A,H, 0x84 (R703). -/
def execAddAH (s : State) : Result := withReg addA .h s

/-- ADD A,L, 0x85 (R703). -/
def execAddAL (s : State) : Result := withReg addA .l s

/-- ADD A,(HL), 0x86 (R704). -/
def execAddAIndHL (s : State) : Result := withHL addA s

/-- ADD A,A, 0x87 (R703). -/
def execAddAA (s : State) : Result := withReg addA .a s

/-- ADC A,B, 0x88 (R706). -/
def execAdcAB (s : State) : Result := withReg adcA .b s

/-- ADC A,C, 0x89 (R706). -/
def execAdcAC (s : State) : Result := withReg adcA .c s

/-- ADC A,D, 0x8A (R706). -/
def execAdcAD (s : State) : Result := withReg adcA .d s

/-- ADC A,E, 0x8B (R706). -/
def execAdcAE (s : State) : Result := withReg adcA .e s

/-- ADC A,H, 0x8C (R706). -/
def execAdcAH (s : State) : Result := withReg adcA .h s

/-- ADC A,L, 0x8D (R706). -/
def execAdcAL (s : State) : Result := withReg adcA .l s

/-- ADC A,(HL), 0x8E (R707). -/
def execAdcAIndHL (s : State) : Result := withHL adcA s

/-- ADC A,A, 0x8F (R706). -/
def execAdcAA (s : State) : Result := withReg adcA .a s

/-- SUB B, 0x90 (R709). -/
def execSubB (s : State) : Result := withReg subA .b s

/-- SUB C, 0x91 (R709). -/
def execSubC (s : State) : Result := withReg subA .c s

/-- SUB D, 0x92 (R709). -/
def execSubD (s : State) : Result := withReg subA .d s

/-- SUB E, 0x93 (R709). -/
def execSubE (s : State) : Result := withReg subA .e s

/-- SUB H, 0x94 (R709). -/
def execSubH (s : State) : Result := withReg subA .h s

/-- SUB L, 0x95 (R709). -/
def execSubL (s : State) : Result := withReg subA .l s

/-- SUB (HL), 0x96 (R710). -/
def execSubIndHL (s : State) : Result := withHL subA s

/-- SUB A, 0x97 (R709). -/
def execSubA (s : State) : Result := withReg subA .a s

/-- SBC A,B, 0x98 (R712). -/
def execSbcAB (s : State) : Result := withReg sbcA .b s

/-- SBC A,C, 0x99 (R712). -/
def execSbcAC (s : State) : Result := withReg sbcA .c s

/-- SBC A,D, 0x9A (R712). -/
def execSbcAD (s : State) : Result := withReg sbcA .d s

/-- SBC A,E, 0x9B (R712). -/
def execSbcAE (s : State) : Result := withReg sbcA .e s

/-- SBC A,H, 0x9C (R712). -/
def execSbcAH (s : State) : Result := withReg sbcA .h s

/-- SBC A,L, 0x9D (R712). -/
def execSbcAL (s : State) : Result := withReg sbcA .l s

/-- SBC A,(HL), 0x9E (R713). -/
def execSbcAIndHL (s : State) : Result := withHL sbcA s

/-- SBC A,A, 0x9F (R712). -/
def execSbcAA (s : State) : Result := withReg sbcA .a s

/-- AND B, 0xA0 (R715). -/
def execAndB (s : State) : Result := withReg andA .b s

/-- AND C, 0xA1 (R715). -/
def execAndC (s : State) : Result := withReg andA .c s

/-- AND D, 0xA2 (R715). -/
def execAndD (s : State) : Result := withReg andA .d s

/-- AND E, 0xA3 (R715). -/
def execAndE (s : State) : Result := withReg andA .e s

/-- AND H, 0xA4 (R715). -/
def execAndH (s : State) : Result := withReg andA .h s

/-- AND L, 0xA5 (R715). -/
def execAndL (s : State) : Result := withReg andA .l s

/-- AND (HL), 0xA6 (R716). -/
def execAndIndHL (s : State) : Result := withHL andA s

/-- AND A, 0xA7 (R715). -/
def execAndA (s : State) : Result := withReg andA .a s

/-- XOR B, 0xA8 (R718). -/
def execXorB (s : State) : Result := withReg xorA .b s

/-- XOR C, 0xA9 (R718). -/
def execXorC (s : State) : Result := withReg xorA .c s

/-- XOR D, 0xAA (R718). -/
def execXorD (s : State) : Result := withReg xorA .d s

/-- XOR E, 0xAB (R718). -/
def execXorE (s : State) : Result := withReg xorA .e s

/-- XOR H, 0xAC (R718). -/
def execXorH (s : State) : Result := withReg xorA .h s

/-- XOR L, 0xAD (R718). -/
def execXorL (s : State) : Result := withReg xorA .l s

/-- XOR (HL), 0xAE (R719). -/
def execXorIndHL (s : State) : Result := withHL xorA s

/-- XOR A, 0xAF (R718). -/
def execXorA (s : State) : Result := withReg xorA .a s

/-- OR B, 0xB0 (R721). -/
def execOrB (s : State) : Result := withReg orA .b s

/-- OR C, 0xB1 (R721). -/
def execOrC (s : State) : Result := withReg orA .c s

/-- OR D, 0xB2 (R721). -/
def execOrD (s : State) : Result := withReg orA .d s

/-- OR E, 0xB3 (R721). -/
def execOrE (s : State) : Result := withReg orA .e s

/-- OR H, 0xB4 (R721). -/
def execOrH (s : State) : Result := withReg orA .h s

/-- OR L, 0xB5 (R721). -/
def execOrL (s : State) : Result := withReg orA .l s

/-- OR (HL), 0xB6 (R722). -/
def execOrIndHL (s : State) : Result := withHL orA s

/-- OR A, 0xB7 (R721). -/
def execOrA (s : State) : Result := withReg orA .a s

/-- CP B, 0xB8 (R724). -/
def execCpB (s : State) : Result := withReg cpA .b s

/-- CP C, 0xB9 (R724). -/
def execCpC (s : State) : Result := withReg cpA .c s

/-- CP D, 0xBA (R724). -/
def execCpD (s : State) : Result := withReg cpA .d s

/-- CP E, 0xBB (R724). -/
def execCpE (s : State) : Result := withReg cpA .e s

/-- CP H, 0xBC (R724). -/
def execCpH (s : State) : Result := withReg cpA .h s

/-- CP L, 0xBD (R724). -/
def execCpL (s : State) : Result := withReg cpA .l s

/-- CP (HL), 0xBE (R725). -/
def execCpIndHL (s : State) : Result := withHL cpA s

/-- CP A, 0xBF (R724). -/
def execCpA (s : State) : Result := withReg cpA .a s

/-- ADD A,n8, 0xC6 (R705). -/
def execAddAN8 (n : Byte) (s : State) : Result := withImm addA n s

/-- ADC A,n8, 0xCE (R708). -/
def execAdcAN8 (n : Byte) (s : State) : Result := withImm adcA n s

/-- SUB n8, 0xD6 (R711). -/
def execSubN8 (n : Byte) (s : State) : Result := withImm subA n s

/-- SBC A,n8, 0xDE (R714). -/
def execSbcAN8 (n : Byte) (s : State) : Result := withImm sbcA n s

/-- AND n8, 0xE6 (R717). -/
def execAndN8 (n : Byte) (s : State) : Result := withImm andA n s

/-- XOR n8, 0xEE (R720). -/
def execXorN8 (n : Byte) (s : State) : Result := withImm xorA n s

/-- OR n8, 0xF6 (R723). -/
def execOrN8 (n : Byte) (s : State) : Result := withImm orA n s

/-- CP n8, 0xFE (R726). -/
def execCpN8 (n : Byte) (s : State) : Result := withImm cpA n s

end Sys2Proof.Machine
end

