-- ==== Sys2Proof/Machine/Bits.lean ====
section
/-! DEFINITION. BIT, RES and SET (45_rotate_shift_bit.md R921..R926). -/

namespace Sys2Proof.Machine

open Sys2Proof

/-- Z = the tested bit is 0, N = 0, H = 1, C unchanged (R921). -/
def State.bitFlags (s : State) (n : Nat) (v : Byte) : State := s.setFlags (!v.getLsbD n) false true s.fC

/-- `BIT n,r` (R921). -/
def testBitReg (n : Nat) (r : R8) (s : State) : Result := .next (s.bitFlags n (s.r8 r))

/-- `BIT n,(HL)`: one read, no write (R922). -/
def testBitHL (n : Nat) (s : State) : Result := (readByte s s.hl).finish fun v s1 => .next (s1.bitFlags n v)

/-- A register changed by a bit operation, no flag (R923, R925). -/
def changeReg (f : Byte → Byte) (r : R8) (s : State) : Result := .next (s.setR8 r (f (s.r8 r)))

/-- (HL) changed by a bit operation: one read, then one write, no flag (R924, R926). -/
def changeHL (f : Byte → Byte) (s : State) : Result :=
  (readByte s s.hl).finish fun v s1 => (writeByte s1 s1.hl (f v)).finish fun _ s2 => .next s2

/-- `RES n,r` (R923). -/
def resetBitReg (n : Nat) (r : R8) (s : State) : Result := changeReg (fun v => v &&& ~~~bitMask n) r s
/-- `RES n,(HL)` (R924). -/
def resetBitHL (n : Nat) (s : State) : Result := changeHL (fun v => v &&& ~~~bitMask n) s
/-- `SET n,r` (R925). -/
def setBitReg (n : Nat) (r : R8) (s : State) : Result := changeReg (fun v => v ||| bitMask n) r s
/-- `SET n,(HL)` (R926). -/
def setBitHL (n : Nat) (s : State) : Result := changeHL (fun v => v ||| bitMask n) s

/-! ### Meanings -/

/-- BIT 0,B, CB 0x40 (R921). -/
def execBit0B (s : State) : Result := testBitReg 0 .b s

/-- BIT 0,C, CB 0x41 (R921). -/
def execBit0C (s : State) : Result := testBitReg 0 .c s

/-- BIT 0,D, CB 0x42 (R921). -/
def execBit0D (s : State) : Result := testBitReg 0 .d s

/-- BIT 0,E, CB 0x43 (R921). -/
def execBit0E (s : State) : Result := testBitReg 0 .e s

/-- BIT 0,H, CB 0x44 (R921). -/
def execBit0H (s : State) : Result := testBitReg 0 .h s

/-- BIT 0,L, CB 0x45 (R921). -/
def execBit0L (s : State) : Result := testBitReg 0 .l s

/-- BIT 0,(HL), CB 0x46 (R922). -/
def execBit0IndHL (s : State) : Result := testBitHL 0 s

/-- BIT 0,A, CB 0x47 (R921). -/
def execBit0A (s : State) : Result := testBitReg 0 .a s

/-- BIT 1,B, CB 0x48 (R921). -/
def execBit1B (s : State) : Result := testBitReg 1 .b s

/-- BIT 1,C, CB 0x49 (R921). -/
def execBit1C (s : State) : Result := testBitReg 1 .c s

/-- BIT 1,D, CB 0x4A (R921). -/
def execBit1D (s : State) : Result := testBitReg 1 .d s

/-- BIT 1,E, CB 0x4B (R921). -/
def execBit1E (s : State) : Result := testBitReg 1 .e s

/-- BIT 1,H, CB 0x4C (R921). -/
def execBit1H (s : State) : Result := testBitReg 1 .h s

/-- BIT 1,L, CB 0x4D (R921). -/
def execBit1L (s : State) : Result := testBitReg 1 .l s

/-- BIT 1,(HL), CB 0x4E (R922). -/
def execBit1IndHL (s : State) : Result := testBitHL 1 s

/-- BIT 1,A, CB 0x4F (R921). -/
def execBit1A (s : State) : Result := testBitReg 1 .a s

/-- BIT 2,B, CB 0x50 (R921). -/
def execBit2B (s : State) : Result := testBitReg 2 .b s

/-- BIT 2,C, CB 0x51 (R921). -/
def execBit2C (s : State) : Result := testBitReg 2 .c s

/-- BIT 2,D, CB 0x52 (R921). -/
def execBit2D (s : State) : Result := testBitReg 2 .d s

/-- BIT 2,E, CB 0x53 (R921). -/
def execBit2E (s : State) : Result := testBitReg 2 .e s

/-- BIT 2,H, CB 0x54 (R921). -/
def execBit2H (s : State) : Result := testBitReg 2 .h s

/-- BIT 2,L, CB 0x55 (R921). -/
def execBit2L (s : State) : Result := testBitReg 2 .l s

/-- BIT 2,(HL), CB 0x56 (R922). -/
def execBit2IndHL (s : State) : Result := testBitHL 2 s

/-- BIT 2,A, CB 0x57 (R921). -/
def execBit2A (s : State) : Result := testBitReg 2 .a s

/-- BIT 3,B, CB 0x58 (R921). -/
def execBit3B (s : State) : Result := testBitReg 3 .b s

/-- BIT 3,C, CB 0x59 (R921). -/
def execBit3C (s : State) : Result := testBitReg 3 .c s

/-- BIT 3,D, CB 0x5A (R921). -/
def execBit3D (s : State) : Result := testBitReg 3 .d s

/-- BIT 3,E, CB 0x5B (R921). -/
def execBit3E (s : State) : Result := testBitReg 3 .e s

/-- BIT 3,H, CB 0x5C (R921). -/
def execBit3H (s : State) : Result := testBitReg 3 .h s

/-- BIT 3,L, CB 0x5D (R921). -/
def execBit3L (s : State) : Result := testBitReg 3 .l s

/-- BIT 3,(HL), CB 0x5E (R922). -/
def execBit3IndHL (s : State) : Result := testBitHL 3 s

/-- BIT 3,A, CB 0x5F (R921). -/
def execBit3A (s : State) : Result := testBitReg 3 .a s

/-- BIT 4,B, CB 0x60 (R921). -/
def execBit4B (s : State) : Result := testBitReg 4 .b s

/-- BIT 4,C, CB 0x61 (R921). -/
def execBit4C (s : State) : Result := testBitReg 4 .c s

/-- BIT 4,D, CB 0x62 (R921). -/
def execBit4D (s : State) : Result := testBitReg 4 .d s

/-- BIT 4,E, CB 0x63 (R921). -/
def execBit4E (s : State) : Result := testBitReg 4 .e s

/-- BIT 4,H, CB 0x64 (R921). -/
def execBit4H (s : State) : Result := testBitReg 4 .h s

/-- BIT 4,L, CB 0x65 (R921). -/
def execBit4L (s : State) : Result := testBitReg 4 .l s

/-- BIT 4,(HL), CB 0x66 (R922). -/
def execBit4IndHL (s : State) : Result := testBitHL 4 s

/-- BIT 4,A, CB 0x67 (R921). -/
def execBit4A (s : State) : Result := testBitReg 4 .a s

/-- BIT 5,B, CB 0x68 (R921). -/
def execBit5B (s : State) : Result := testBitReg 5 .b s

/-- BIT 5,C, CB 0x69 (R921). -/
def execBit5C (s : State) : Result := testBitReg 5 .c s

/-- BIT 5,D, CB 0x6A (R921). -/
def execBit5D (s : State) : Result := testBitReg 5 .d s

/-- BIT 5,E, CB 0x6B (R921). -/
def execBit5E (s : State) : Result := testBitReg 5 .e s

/-- BIT 5,H, CB 0x6C (R921). -/
def execBit5H (s : State) : Result := testBitReg 5 .h s

/-- BIT 5,L, CB 0x6D (R921). -/
def execBit5L (s : State) : Result := testBitReg 5 .l s

/-- BIT 5,(HL), CB 0x6E (R922). -/
def execBit5IndHL (s : State) : Result := testBitHL 5 s

/-- BIT 5,A, CB 0x6F (R921). -/
def execBit5A (s : State) : Result := testBitReg 5 .a s

/-- BIT 6,B, CB 0x70 (R921). -/
def execBit6B (s : State) : Result := testBitReg 6 .b s

/-- BIT 6,C, CB 0x71 (R921). -/
def execBit6C (s : State) : Result := testBitReg 6 .c s

/-- BIT 6,D, CB 0x72 (R921). -/
def execBit6D (s : State) : Result := testBitReg 6 .d s

/-- BIT 6,E, CB 0x73 (R921). -/
def execBit6E (s : State) : Result := testBitReg 6 .e s

/-- BIT 6,H, CB 0x74 (R921). -/
def execBit6H (s : State) : Result := testBitReg 6 .h s

/-- BIT 6,L, CB 0x75 (R921). -/
def execBit6L (s : State) : Result := testBitReg 6 .l s

/-- BIT 6,(HL), CB 0x76 (R922). -/
def execBit6IndHL (s : State) : Result := testBitHL 6 s

/-- BIT 6,A, CB 0x77 (R921). -/
def execBit6A (s : State) : Result := testBitReg 6 .a s

/-- BIT 7,B, CB 0x78 (R921). -/
def execBit7B (s : State) : Result := testBitReg 7 .b s

/-- BIT 7,C, CB 0x79 (R921). -/
def execBit7C (s : State) : Result := testBitReg 7 .c s

/-- BIT 7,D, CB 0x7A (R921). -/
def execBit7D (s : State) : Result := testBitReg 7 .d s

/-- BIT 7,E, CB 0x7B (R921). -/
def execBit7E (s : State) : Result := testBitReg 7 .e s

/-- BIT 7,H, CB 0x7C (R921). -/
def execBit7H (s : State) : Result := testBitReg 7 .h s

/-- BIT 7,L, CB 0x7D (R921). -/
def execBit7L (s : State) : Result := testBitReg 7 .l s

/-- BIT 7,(HL), CB 0x7E (R922). -/
def execBit7IndHL (s : State) : Result := testBitHL 7 s

/-- BIT 7,A, CB 0x7F (R921). -/
def execBit7A (s : State) : Result := testBitReg 7 .a s

/-- RES 0,B, CB 0x80 (R923). -/
def execRes0B (s : State) : Result := resetBitReg 0 .b s

/-- RES 0,C, CB 0x81 (R923). -/
def execRes0C (s : State) : Result := resetBitReg 0 .c s

/-- RES 0,D, CB 0x82 (R923). -/
def execRes0D (s : State) : Result := resetBitReg 0 .d s

/-- RES 0,E, CB 0x83 (R923). -/
def execRes0E (s : State) : Result := resetBitReg 0 .e s

/-- RES 0,H, CB 0x84 (R923). -/
def execRes0H (s : State) : Result := resetBitReg 0 .h s

/-- RES 0,L, CB 0x85 (R923). -/
def execRes0L (s : State) : Result := resetBitReg 0 .l s

/-- RES 0,(HL), CB 0x86 (R924). -/
def execRes0IndHL (s : State) : Result := resetBitHL 0 s

/-- RES 0,A, CB 0x87 (R923). -/
def execRes0A (s : State) : Result := resetBitReg 0 .a s

/-- RES 1,B, CB 0x88 (R923). -/
def execRes1B (s : State) : Result := resetBitReg 1 .b s

/-- RES 1,C, CB 0x89 (R923). -/
def execRes1C (s : State) : Result := resetBitReg 1 .c s

/-- RES 1,D, CB 0x8A (R923). -/
def execRes1D (s : State) : Result := resetBitReg 1 .d s

/-- RES 1,E, CB 0x8B (R923). -/
def execRes1E (s : State) : Result := resetBitReg 1 .e s

/-- RES 1,H, CB 0x8C (R923). -/
def execRes1H (s : State) : Result := resetBitReg 1 .h s

/-- RES 1,L, CB 0x8D (R923). -/
def execRes1L (s : State) : Result := resetBitReg 1 .l s

/-- RES 1,(HL), CB 0x8E (R924). -/
def execRes1IndHL (s : State) : Result := resetBitHL 1 s

/-- RES 1,A, CB 0x8F (R923). -/
def execRes1A (s : State) : Result := resetBitReg 1 .a s

/-- RES 2,B, CB 0x90 (R923). -/
def execRes2B (s : State) : Result := resetBitReg 2 .b s

/-- RES 2,C, CB 0x91 (R923). -/
def execRes2C (s : State) : Result := resetBitReg 2 .c s

/-- RES 2,D, CB 0x92 (R923). -/
def execRes2D (s : State) : Result := resetBitReg 2 .d s

/-- RES 2,E, CB 0x93 (R923). -/
def execRes2E (s : State) : Result := resetBitReg 2 .e s

/-- RES 2,H, CB 0x94 (R923). -/
def execRes2H (s : State) : Result := resetBitReg 2 .h s

/-- RES 2,L, CB 0x95 (R923). -/
def execRes2L (s : State) : Result := resetBitReg 2 .l s

/-- RES 2,(HL), CB 0x96 (R924). -/
def execRes2IndHL (s : State) : Result := resetBitHL 2 s

/-- RES 2,A, CB 0x97 (R923). -/
def execRes2A (s : State) : Result := resetBitReg 2 .a s

/-- RES 3,B, CB 0x98 (R923). -/
def execRes3B (s : State) : Result := resetBitReg 3 .b s

/-- RES 3,C, CB 0x99 (R923). -/
def execRes3C (s : State) : Result := resetBitReg 3 .c s

/-- RES 3,D, CB 0x9A (R923). -/
def execRes3D (s : State) : Result := resetBitReg 3 .d s

/-- RES 3,E, CB 0x9B (R923). -/
def execRes3E (s : State) : Result := resetBitReg 3 .e s

/-- RES 3,H, CB 0x9C (R923). -/
def execRes3H (s : State) : Result := resetBitReg 3 .h s

/-- RES 3,L, CB 0x9D (R923). -/
def execRes3L (s : State) : Result := resetBitReg 3 .l s

/-- RES 3,(HL), CB 0x9E (R924). -/
def execRes3IndHL (s : State) : Result := resetBitHL 3 s

/-- RES 3,A, CB 0x9F (R923). -/
def execRes3A (s : State) : Result := resetBitReg 3 .a s

/-- RES 4,B, CB 0xA0 (R923). -/
def execRes4B (s : State) : Result := resetBitReg 4 .b s

/-- RES 4,C, CB 0xA1 (R923). -/
def execRes4C (s : State) : Result := resetBitReg 4 .c s

/-- RES 4,D, CB 0xA2 (R923). -/
def execRes4D (s : State) : Result := resetBitReg 4 .d s

/-- RES 4,E, CB 0xA3 (R923). -/
def execRes4E (s : State) : Result := resetBitReg 4 .e s

/-- RES 4,H, CB 0xA4 (R923). -/
def execRes4H (s : State) : Result := resetBitReg 4 .h s

/-- RES 4,L, CB 0xA5 (R923). -/
def execRes4L (s : State) : Result := resetBitReg 4 .l s

/-- RES 4,(HL), CB 0xA6 (R924). -/
def execRes4IndHL (s : State) : Result := resetBitHL 4 s

/-- RES 4,A, CB 0xA7 (R923). -/
def execRes4A (s : State) : Result := resetBitReg 4 .a s

/-- RES 5,B, CB 0xA8 (R923). -/
def execRes5B (s : State) : Result := resetBitReg 5 .b s

/-- RES 5,C, CB 0xA9 (R923). -/
def execRes5C (s : State) : Result := resetBitReg 5 .c s

/-- RES 5,D, CB 0xAA (R923). -/
def execRes5D (s : State) : Result := resetBitReg 5 .d s

/-- RES 5,E, CB 0xAB (R923). -/
def execRes5E (s : State) : Result := resetBitReg 5 .e s

/-- RES 5,H, CB 0xAC (R923). -/
def execRes5H (s : State) : Result := resetBitReg 5 .h s

/-- RES 5,L, CB 0xAD (R923). -/
def execRes5L (s : State) : Result := resetBitReg 5 .l s

/-- RES 5,(HL), CB 0xAE (R924). -/
def execRes5IndHL (s : State) : Result := resetBitHL 5 s

/-- RES 5,A, CB 0xAF (R923). -/
def execRes5A (s : State) : Result := resetBitReg 5 .a s

/-- RES 6,B, CB 0xB0 (R923). -/
def execRes6B (s : State) : Result := resetBitReg 6 .b s

/-- RES 6,C, CB 0xB1 (R923). -/
def execRes6C (s : State) : Result := resetBitReg 6 .c s

/-- RES 6,D, CB 0xB2 (R923). -/
def execRes6D (s : State) : Result := resetBitReg 6 .d s

/-- RES 6,E, CB 0xB3 (R923). -/
def execRes6E (s : State) : Result := resetBitReg 6 .e s

/-- RES 6,H, CB 0xB4 (R923). -/
def execRes6H (s : State) : Result := resetBitReg 6 .h s

/-- RES 6,L, CB 0xB5 (R923). -/
def execRes6L (s : State) : Result := resetBitReg 6 .l s

/-- RES 6,(HL), CB 0xB6 (R924). -/
def execRes6IndHL (s : State) : Result := resetBitHL 6 s

/-- RES 6,A, CB 0xB7 (R923). -/
def execRes6A (s : State) : Result := resetBitReg 6 .a s

/-- RES 7,B, CB 0xB8 (R923). -/
def execRes7B (s : State) : Result := resetBitReg 7 .b s

/-- RES 7,C, CB 0xB9 (R923). -/
def execRes7C (s : State) : Result := resetBitReg 7 .c s

/-- RES 7,D, CB 0xBA (R923). -/
def execRes7D (s : State) : Result := resetBitReg 7 .d s

/-- RES 7,E, CB 0xBB (R923). -/
def execRes7E (s : State) : Result := resetBitReg 7 .e s

/-- RES 7,H, CB 0xBC (R923). -/
def execRes7H (s : State) : Result := resetBitReg 7 .h s

/-- RES 7,L, CB 0xBD (R923). -/
def execRes7L (s : State) : Result := resetBitReg 7 .l s

/-- RES 7,(HL), CB 0xBE (R924). -/
def execRes7IndHL (s : State) : Result := resetBitHL 7 s

/-- RES 7,A, CB 0xBF (R923). -/
def execRes7A (s : State) : Result := resetBitReg 7 .a s

/-- SET 0,B, CB 0xC0 (R925). -/
def execSet0B (s : State) : Result := setBitReg 0 .b s

/-- SET 0,C, CB 0xC1 (R925). -/
def execSet0C (s : State) : Result := setBitReg 0 .c s

/-- SET 0,D, CB 0xC2 (R925). -/
def execSet0D (s : State) : Result := setBitReg 0 .d s

/-- SET 0,E, CB 0xC3 (R925). -/
def execSet0E (s : State) : Result := setBitReg 0 .e s

/-- SET 0,H, CB 0xC4 (R925). -/
def execSet0H (s : State) : Result := setBitReg 0 .h s

/-- SET 0,L, CB 0xC5 (R925). -/
def execSet0L (s : State) : Result := setBitReg 0 .l s

/-- SET 0,(HL), CB 0xC6 (R926). -/
def execSet0IndHL (s : State) : Result := setBitHL 0 s

/-- SET 0,A, CB 0xC7 (R925). -/
def execSet0A (s : State) : Result := setBitReg 0 .a s

/-- SET 1,B, CB 0xC8 (R925). -/
def execSet1B (s : State) : Result := setBitReg 1 .b s

/-- SET 1,C, CB 0xC9 (R925). -/
def execSet1C (s : State) : Result := setBitReg 1 .c s

/-- SET 1,D, CB 0xCA (R925). -/
def execSet1D (s : State) : Result := setBitReg 1 .d s

/-- SET 1,E, CB 0xCB (R925). -/
def execSet1E (s : State) : Result := setBitReg 1 .e s

/-- SET 1,H, CB 0xCC (R925). -/
def execSet1H (s : State) : Result := setBitReg 1 .h s

/-- SET 1,L, CB 0xCD (R925). -/
def execSet1L (s : State) : Result := setBitReg 1 .l s

/-- SET 1,(HL), CB 0xCE (R926). -/
def execSet1IndHL (s : State) : Result := setBitHL 1 s

/-- SET 1,A, CB 0xCF (R925). -/
def execSet1A (s : State) : Result := setBitReg 1 .a s

/-- SET 2,B, CB 0xD0 (R925). -/
def execSet2B (s : State) : Result := setBitReg 2 .b s

/-- SET 2,C, CB 0xD1 (R925). -/
def execSet2C (s : State) : Result := setBitReg 2 .c s

/-- SET 2,D, CB 0xD2 (R925). -/
def execSet2D (s : State) : Result := setBitReg 2 .d s

/-- SET 2,E, CB 0xD3 (R925). -/
def execSet2E (s : State) : Result := setBitReg 2 .e s

/-- SET 2,H, CB 0xD4 (R925). -/
def execSet2H (s : State) : Result := setBitReg 2 .h s

/-- SET 2,L, CB 0xD5 (R925). -/
def execSet2L (s : State) : Result := setBitReg 2 .l s

/-- SET 2,(HL), CB 0xD6 (R926). -/
def execSet2IndHL (s : State) : Result := setBitHL 2 s

/-- SET 2,A, CB 0xD7 (R925). -/
def execSet2A (s : State) : Result := setBitReg 2 .a s

/-- SET 3,B, CB 0xD8 (R925). -/
def execSet3B (s : State) : Result := setBitReg 3 .b s

/-- SET 3,C, CB 0xD9 (R925). -/
def execSet3C (s : State) : Result := setBitReg 3 .c s

/-- SET 3,D, CB 0xDA (R925). -/
def execSet3D (s : State) : Result := setBitReg 3 .d s

/-- SET 3,E, CB 0xDB (R925). -/
def execSet3E (s : State) : Result := setBitReg 3 .e s

/-- SET 3,H, CB 0xDC (R925). -/
def execSet3H (s : State) : Result := setBitReg 3 .h s

/-- SET 3,L, CB 0xDD (R925). -/
def execSet3L (s : State) : Result := setBitReg 3 .l s

/-- SET 3,(HL), CB 0xDE (R926). -/
def execSet3IndHL (s : State) : Result := setBitHL 3 s

/-- SET 3,A, CB 0xDF (R925). -/
def execSet3A (s : State) : Result := setBitReg 3 .a s

/-- SET 4,B, CB 0xE0 (R925). -/
def execSet4B (s : State) : Result := setBitReg 4 .b s

/-- SET 4,C, CB 0xE1 (R925). -/
def execSet4C (s : State) : Result := setBitReg 4 .c s

/-- SET 4,D, CB 0xE2 (R925). -/
def execSet4D (s : State) : Result := setBitReg 4 .d s

/-- SET 4,E, CB 0xE3 (R925). -/
def execSet4E (s : State) : Result := setBitReg 4 .e s

/-- SET 4,H, CB 0xE4 (R925). -/
def execSet4H (s : State) : Result := setBitReg 4 .h s

/-- SET 4,L, CB 0xE5 (R925). -/
def execSet4L (s : State) : Result := setBitReg 4 .l s

/-- SET 4,(HL), CB 0xE6 (R926). -/
def execSet4IndHL (s : State) : Result := setBitHL 4 s

/-- SET 4,A, CB 0xE7 (R925). -/
def execSet4A (s : State) : Result := setBitReg 4 .a s

/-- SET 5,B, CB 0xE8 (R925). -/
def execSet5B (s : State) : Result := setBitReg 5 .b s

/-- SET 5,C, CB 0xE9 (R925). -/
def execSet5C (s : State) : Result := setBitReg 5 .c s

/-- SET 5,D, CB 0xEA (R925). -/
def execSet5D (s : State) : Result := setBitReg 5 .d s

/-- SET 5,E, CB 0xEB (R925). -/
def execSet5E (s : State) : Result := setBitReg 5 .e s

/-- SET 5,H, CB 0xEC (R925). -/
def execSet5H (s : State) : Result := setBitReg 5 .h s

/-- SET 5,L, CB 0xED (R925). -/
def execSet5L (s : State) : Result := setBitReg 5 .l s

/-- SET 5,(HL), CB 0xEE (R926). -/
def execSet5IndHL (s : State) : Result := setBitHL 5 s

/-- SET 5,A, CB 0xEF (R925). -/
def execSet5A (s : State) : Result := setBitReg 5 .a s

/-- SET 6,B, CB 0xF0 (R925). -/
def execSet6B (s : State) : Result := setBitReg 6 .b s

/-- SET 6,C, CB 0xF1 (R925). -/
def execSet6C (s : State) : Result := setBitReg 6 .c s

/-- SET 6,D, CB 0xF2 (R925). -/
def execSet6D (s : State) : Result := setBitReg 6 .d s

/-- SET 6,E, CB 0xF3 (R925). -/
def execSet6E (s : State) : Result := setBitReg 6 .e s

/-- SET 6,H, CB 0xF4 (R925). -/
def execSet6H (s : State) : Result := setBitReg 6 .h s

/-- SET 6,L, CB 0xF5 (R925). -/
def execSet6L (s : State) : Result := setBitReg 6 .l s

/-- SET 6,(HL), CB 0xF6 (R926). -/
def execSet6IndHL (s : State) : Result := setBitHL 6 s

/-- SET 6,A, CB 0xF7 (R925). -/
def execSet6A (s : State) : Result := setBitReg 6 .a s

/-- SET 7,B, CB 0xF8 (R925). -/
def execSet7B (s : State) : Result := setBitReg 7 .b s

/-- SET 7,C, CB 0xF9 (R925). -/
def execSet7C (s : State) : Result := setBitReg 7 .c s

/-- SET 7,D, CB 0xFA (R925). -/
def execSet7D (s : State) : Result := setBitReg 7 .d s

/-- SET 7,E, CB 0xFB (R925). -/
def execSet7E (s : State) : Result := setBitReg 7 .e s

/-- SET 7,H, CB 0xFC (R925). -/
def execSet7H (s : State) : Result := setBitReg 7 .h s

/-- SET 7,L, CB 0xFD (R925). -/
def execSet7L (s : State) : Result := setBitReg 7 .l s

/-- SET 7,(HL), CB 0xFE (R926). -/
def execSet7IndHL (s : State) : Result := setBitHL 7 s

/-- SET 7,A, CB 0xFF (R925). -/
def execSet7A (s : State) : Result := setBitReg 7 .a s

end Sys2Proof.Machine
end

