-- ==== Sys2Proof/Machine/Control.lean ====
section
/-! DEFINITION. Control flow (46_control.md). `s.pc` is the post-fetch pc (40_step.md R404). No instruction here writes a
flag (R1000). -/

namespace Sys2Proof.Machine

open Sys2Proof

/-- `pc <- addr` (R1001, R1003). -/
def jumpTo (addr : Word) (s : State) : Result := .next (s.setPC addr)

/-- `if Cond(cc): pc <- addr` (R1002). -/
def jumpIf (cc : Cond) (addr : Word) (s : State) : Result := if s.cond cc then jumpTo addr s else .next s

/-- `pc <- pc + sext_16(e)` (R1004). -/
def jumpRelative (e : Byte) (s : State) : Result := jumpTo (s.pc + sext16 e) s

/-- `if Cond(cc): pc <- pc + sext_16(e)` (R1005). -/
def jumpRelativeIf (cc : Cond) (e : Byte) (s : State) : Result := if s.cond cc then jumpRelative e s else .next s

/-- `Push16(pc); pc <- addr` (R1006). -/
def callTo (addr : Word) (s : State) : Result := (push16 s s.pc).finish fun _ s1 => .next (s1.setPC addr)

/-- `if Cond(cc): Push16(pc); pc <- addr` (R1007). -/
def callIf (cc : Cond) (addr : Word) (s : State) : Result := if s.cond cc then callTo addr s else .next s

/-- `pc <- Pop16()` (R1008). -/
def returnTo (s : State) : Result := (pop16 s).finish fun v s1 => .next (s1.setPC v)

/-- `if Cond(cc): pc <- Pop16()` (R1011). -/
def returnIf (cc : Cond) (s : State) : Result := if s.cond cc then returnTo s else .next s

/-- `pc <- Pop16(); IME <- true` (R1009). -/
def returnEnabling (s : State) : Result := (returnFromInterrupt s).finish fun _ s1 => .next s1

/-- `Push16(pc); pc <- 8·t` (R1010). -/
def restart (t : RstNo) (s : State) : Result := callTo (BitVec.ofNat 16 (8 * t.toNat)) s

/-! ### Meanings -/

/-- JR e8, 0x18 (R1004). -/
def execJrE8 (e : Byte) (s : State) : Result := jumpRelative e s

/-- JR NZ,e8, 0x20 (R1005). -/
def execJrNZE8 (e : Byte) (s : State) : Result := jumpRelativeIf .nz e s

/-- JR Z,e8, 0x28 (R1005). -/
def execJrZE8 (e : Byte) (s : State) : Result := jumpRelativeIf .z e s

/-- JR NC,e8, 0x30 (R1005). -/
def execJrNCE8 (e : Byte) (s : State) : Result := jumpRelativeIf .nc e s

/-- JR C,e8, 0x38 (R1005). -/
def execJrCE8 (e : Byte) (s : State) : Result := jumpRelativeIf .c e s

/-- RET NZ, 0xC0 (R1011). -/
def execRetNZ (s : State) : Result := returnIf .nz s

/-- JP NZ,n16, 0xC2 (R1002). -/
def execJpNZN16 (nn : Word) (s : State) : Result := jumpIf .nz nn s

/-- JP n16, 0xC3 (R1001). -/
def execJpN16 (nn : Word) (s : State) : Result := jumpTo nn s

/-- CALL NZ,n16, 0xC4 (R1007). -/
def execCallNZN16 (nn : Word) (s : State) : Result := callIf .nz nn s

/-- RST 0x00, 0xC7 (R1010). -/
def execRst00 (s : State) : Result := restart .t0 s

/-- RET Z, 0xC8 (R1011). -/
def execRetZ (s : State) : Result := returnIf .z s

/-- RET, 0xC9 (R1008). -/
def execRet (s : State) : Result := returnTo s

/-- JP Z,n16, 0xCA (R1002). -/
def execJpZN16 (nn : Word) (s : State) : Result := jumpIf .z nn s

/-- CALL Z,n16, 0xCC (R1007). -/
def execCallZN16 (nn : Word) (s : State) : Result := callIf .z nn s

/-- CALL n16, 0xCD (R1006). -/
def execCallN16 (nn : Word) (s : State) : Result := callTo nn s

/-- RST 0x08, 0xCF (R1010). -/
def execRst08 (s : State) : Result := restart .t1 s

/-- RET NC, 0xD0 (R1011). -/
def execRetNC (s : State) : Result := returnIf .nc s

/-- JP NC,n16, 0xD2 (R1002). -/
def execJpNCN16 (nn : Word) (s : State) : Result := jumpIf .nc nn s

/-- CALL NC,n16, 0xD4 (R1007). -/
def execCallNCN16 (nn : Word) (s : State) : Result := callIf .nc nn s

/-- RST 0x10, 0xD7 (R1010). -/
def execRst10 (s : State) : Result := restart .t2 s

/-- RET C, 0xD8 (R1011). -/
def execRetC (s : State) : Result := returnIf .c s

/-- RETI, 0xD9 (R1009). -/
def execReti (s : State) : Result := returnEnabling s

/-- JP C,n16, 0xDA (R1002). -/
def execJpCN16 (nn : Word) (s : State) : Result := jumpIf .c nn s

/-- CALL C,n16, 0xDC (R1007). -/
def execCallCN16 (nn : Word) (s : State) : Result := callIf .c nn s

/-- RST 0x18, 0xDF (R1010). -/
def execRst18 (s : State) : Result := restart .t3 s

/-- RST 0x20, 0xE7 (R1010). -/
def execRst20 (s : State) : Result := restart .t4 s

/-- JP HL, 0xE9 (R1003). -/
def execJpHL (s : State) : Result := jumpTo s.hl s

/-- RST 0x28, 0xEF (R1010). -/
def execRst28 (s : State) : Result := restart .t5 s

/-- RST 0x30, 0xF7 (R1010). -/
def execRst30 (s : State) : Result := restart .t6 s

/-- RST 0x38, 0xFF (R1010). -/
def execRst38 (s : State) : Result := restart .t7 s

end Sys2Proof.Machine
end

