-- ==== Sys2Proof/Machine/Load16.lean ====
section
/-! DEFINITION. The 16-bit loads and the stack operations (42_load16.md). -/

namespace Sys2Proof.Machine

open Sys2Proof

/-- `x[rr] <- v` (R601). -/
def loadPair (p : RP) (v : Word) (s : State) : Result := .next (s.setRP p v)

/-- `MemWrite(addr, 2, x[SP])` (R602). -/
def storeSP (addr : Word) (s : State) : Result := (writeWord s addr s.sp).finish fun _ s1 => .next s1

/-- `x[SP] <- x[HL]` (R603). -/
def loadSPFromHL (s : State) : Result := .next (s.setSP s.hl)

/-- `x[HL] <- x[SP] + sext_16(e)` with Z = N = 0 and the low byte's carries (R604). -/
def loadHLFromSP (e : Byte) (s : State) : Result :=
  .next ((s.setHL (s.sp + sext16 e)).setFlags false false (spHalf s.sp e) (spCarry s.sp e))

/-- `Push16(x[rr])` (R605, R608). -/
def pushPair (p : RP2) (s : State) : Result := (push16 s (s.rp2 p)).finish fun _ s1 => .next s1

/-- `x[rr] <- Pop16()` (R606, R607). -/
def popPair (p : RP2) (s : State) : Result := (pop16 s).finish fun v s1 => .next (s1.setRP2 p v)

/-! ### Meanings -/

/-- LD BC,n16, 0x01 (R601). -/
def execLdBCN16 (nn : Word) (s : State) : Result := loadPair .bc nn s

/-- LD (n16),SP, 0x08 (R602). -/
def execLdIndN16SP (nn : Word) (s : State) : Result := storeSP nn s

/-- LD DE,n16, 0x11 (R601). -/
def execLdDEN16 (nn : Word) (s : State) : Result := loadPair .de nn s

/-- LD HL,n16, 0x21 (R601). -/
def execLdHLN16 (nn : Word) (s : State) : Result := loadPair .hl nn s

/-- LD SP,n16, 0x31 (R601). -/
def execLdSPN16 (nn : Word) (s : State) : Result := loadPair .sp nn s

/-- POP BC, 0xC1 (R606). -/
def execPopBC (s : State) : Result := popPair .bc s

/-- PUSH BC, 0xC5 (R605). -/
def execPushBC (s : State) : Result := pushPair .bc s

/-- POP DE, 0xD1 (R606). -/
def execPopDE (s : State) : Result := popPair .de s

/-- PUSH DE, 0xD5 (R605). -/
def execPushDE (s : State) : Result := pushPair .de s

/-- POP HL, 0xE1 (R606). -/
def execPopHL (s : State) : Result := popPair .hl s

/-- PUSH HL, 0xE5 (R605). -/
def execPushHL (s : State) : Result := pushPair .hl s

/-- POP AF, 0xF1 (R607). -/
def execPopAF (s : State) : Result := popPair .af s

/-- PUSH AF, 0xF5 (R608). -/
def execPushAF (s : State) : Result := pushPair .af s

/-- LD HL,SP+e8, 0xF8 (R604). -/
def execLdHLSPE8 (e : Byte) (s : State) : Result := loadHLFromSP e s

/-- LD SP,HL, 0xF9 (R603). -/
def execLdSPHL (s : State) : Result := loadSPFromHL s

end Sys2Proof.Machine
end

