-- ==== Sys2Proof/Machine/Load8.lean ====
section
/-! DEFINITION. The 8-bit loads (41_load8.md). A meaning runs with pc past the whole instruction (40_step.md R404) and its
immediate as an argument; no load writes a flag (R500). -/

namespace Sys2Proof.Machine

open Sys2Proof

/-- `x[d] <- x[r]` (R501). -/
def loadReg (dst src : R8) (s : State) : Result := .next (s.setR8 dst (s.r8 src))

/-- `x[d] <- n` (R502). -/
def loadImm (dst : R8) (n : Byte) (s : State) : Result := .next (s.setR8 dst n)

/-- `x[d] <- MemRead(addr, 1)` (R503, R506, R507, R510, R512, R514). -/
def loadByte (dst : R8) (addr : Word) (s : State) : Result :=
  (readByte s addr).finish fun v s1 => .next (s1.setR8 dst v)

/-- `MemWrite(addr, 1, v)` (R504, R505, R508, R509, R511, R513, R515). -/
def storeByte (addr : Word) (v : Byte) (s : State) : Result := (writeByte s addr v).finish fun _ s1 => .next s1

/-- `MemWrite(x[HL], 1, x[A])`, then HL moves by `delta` (R516, R518); a fault leaves HL alone. -/
def storeAndStep (delta : Word) (s : State) : Result :=
  (writeByte s s.hl s.a).finish fun _ s1 => .next (s1.setHL (s1.hl + delta))

/-- `x[A] <- MemRead(x[HL], 1)`, then HL moves by `delta` (R517, R519). -/
def loadAndStep (delta : Word) (s : State) : Result :=
  (readByte s s.hl).finish fun v s1 => .next ((s1.setR8 .a v).setHL (s1.hl + delta))

/-! ### Meanings -/

/-- LD (BC),A, 0x02 (R508). -/
def execLdIndBCA (s : State) : Result := storeByte s.bc s.a s

/-- LD B,n8, 0x06 (R502). -/
def execLdBN8 (n : Byte) (s : State) : Result := loadImm .b n s

/-- LD A,(BC), 0x0A (R506). -/
def execLdAIndBC (s : State) : Result := loadByte .a s.bc s

/-- LD C,n8, 0x0E (R502). -/
def execLdCN8 (n : Byte) (s : State) : Result := loadImm .c n s

/-- LD (DE),A, 0x12 (R509). -/
def execLdIndDEA (s : State) : Result := storeByte s.de s.a s

/-- LD D,n8, 0x16 (R502). -/
def execLdDN8 (n : Byte) (s : State) : Result := loadImm .d n s

/-- LD A,(DE), 0x1A (R507). -/
def execLdAIndDE (s : State) : Result := loadByte .a s.de s

/-- LD E,n8, 0x1E (R502). -/
def execLdEN8 (n : Byte) (s : State) : Result := loadImm .e n s

/-- LD (HL+),A, 0x22 (R516). -/
def execLdIndHLIncA (s : State) : Result := storeAndStep 1 s

/-- LD H,n8, 0x26 (R502). -/
def execLdHN8 (n : Byte) (s : State) : Result := loadImm .h n s

/-- LD A,(HL+), 0x2A (R517). -/
def execLdAIndHLInc (s : State) : Result := loadAndStep 1 s

/-- LD L,n8, 0x2E (R502). -/
def execLdLN8 (n : Byte) (s : State) : Result := loadImm .l n s

/-- LD (HL-),A, 0x32 (R518). -/
def execLdIndHLDecA (s : State) : Result := storeAndStep (-1) s

/-- LD (HL),n8, 0x36 (R505). -/
def execLdIndHLN8 (n : Byte) (s : State) : Result := storeByte s.hl n s

/-- LD A,(HL-), 0x3A (R519). -/
def execLdAIndHLDec (s : State) : Result := loadAndStep (-1) s

/-- LD A,n8, 0x3E (R502). -/
def execLdAN8 (n : Byte) (s : State) : Result := loadImm .a n s

/-- LD B,B, 0x40 (R501). -/
def execLdBB (s : State) : Result := loadReg .b .b s

/-- LD B,C, 0x41 (R501). -/
def execLdBC (s : State) : Result := loadReg .b .c s

/-- LD B,D, 0x42 (R501). -/
def execLdBD (s : State) : Result := loadReg .b .d s

/-- LD B,E, 0x43 (R501). -/
def execLdBE (s : State) : Result := loadReg .b .e s

/-- LD B,H, 0x44 (R501). -/
def execLdBH (s : State) : Result := loadReg .b .h s

/-- LD B,L, 0x45 (R501). -/
def execLdBL (s : State) : Result := loadReg .b .l s

/-- LD B,(HL), 0x46 (R503). -/
def execLdBIndHL (s : State) : Result := loadByte .b s.hl s

/-- LD B,A, 0x47 (R501). -/
def execLdBA (s : State) : Result := loadReg .b .a s

/-- LD C,B, 0x48 (R501). -/
def execLdCB (s : State) : Result := loadReg .c .b s

/-- LD C,C, 0x49 (R501). -/
def execLdCC (s : State) : Result := loadReg .c .c s

/-- LD C,D, 0x4A (R501). -/
def execLdCD (s : State) : Result := loadReg .c .d s

/-- LD C,E, 0x4B (R501). -/
def execLdCE (s : State) : Result := loadReg .c .e s

/-- LD C,H, 0x4C (R501). -/
def execLdCH (s : State) : Result := loadReg .c .h s

/-- LD C,L, 0x4D (R501). -/
def execLdCL (s : State) : Result := loadReg .c .l s

/-- LD C,(HL), 0x4E (R503). -/
def execLdCIndHL (s : State) : Result := loadByte .c s.hl s

/-- LD C,A, 0x4F (R501). -/
def execLdCA (s : State) : Result := loadReg .c .a s

/-- LD D,B, 0x50 (R501). -/
def execLdDB (s : State) : Result := loadReg .d .b s

/-- LD D,C, 0x51 (R501). -/
def execLdDC (s : State) : Result := loadReg .d .c s

/-- LD D,D, 0x52 (R501). -/
def execLdDD (s : State) : Result := loadReg .d .d s

/-- LD D,E, 0x53 (R501). -/
def execLdDE (s : State) : Result := loadReg .d .e s

/-- LD D,H, 0x54 (R501). -/
def execLdDH (s : State) : Result := loadReg .d .h s

/-- LD D,L, 0x55 (R501). -/
def execLdDL (s : State) : Result := loadReg .d .l s

/-- LD D,(HL), 0x56 (R503). -/
def execLdDIndHL (s : State) : Result := loadByte .d s.hl s

/-- LD D,A, 0x57 (R501). -/
def execLdDA (s : State) : Result := loadReg .d .a s

/-- LD E,B, 0x58 (R501). -/
def execLdEB (s : State) : Result := loadReg .e .b s

/-- LD E,C, 0x59 (R501). -/
def execLdEC (s : State) : Result := loadReg .e .c s

/-- LD E,D, 0x5A (R501). -/
def execLdED (s : State) : Result := loadReg .e .d s

/-- LD E,E, 0x5B (R501). -/
def execLdEE (s : State) : Result := loadReg .e .e s

/-- LD E,H, 0x5C (R501). -/
def execLdEH (s : State) : Result := loadReg .e .h s

/-- LD E,L, 0x5D (R501). -/
def execLdEL (s : State) : Result := loadReg .e .l s

/-- LD E,(HL), 0x5E (R503). -/
def execLdEIndHL (s : State) : Result := loadByte .e s.hl s

/-- LD E,A, 0x5F (R501). -/
def execLdEA (s : State) : Result := loadReg .e .a s

/-- LD H,B, 0x60 (R501). -/
def execLdHB (s : State) : Result := loadReg .h .b s

/-- LD H,C, 0x61 (R501). -/
def execLdHC (s : State) : Result := loadReg .h .c s

/-- LD H,D, 0x62 (R501). -/
def execLdHD (s : State) : Result := loadReg .h .d s

/-- LD H,E, 0x63 (R501). -/
def execLdHE (s : State) : Result := loadReg .h .e s

/-- LD H,H, 0x64 (R501). -/
def execLdHH (s : State) : Result := loadReg .h .h s

/-- LD H,L, 0x65 (R501). -/
def execLdHL (s : State) : Result := loadReg .h .l s

/-- LD H,(HL), 0x66 (R503). -/
def execLdHIndHL (s : State) : Result := loadByte .h s.hl s

/-- LD H,A, 0x67 (R501). -/
def execLdHA (s : State) : Result := loadReg .h .a s

/-- LD L,B, 0x68 (R501). -/
def execLdLB (s : State) : Result := loadReg .l .b s

/-- LD L,C, 0x69 (R501). -/
def execLdLC (s : State) : Result := loadReg .l .c s

/-- LD L,D, 0x6A (R501). -/
def execLdLD (s : State) : Result := loadReg .l .d s

/-- LD L,E, 0x6B (R501). -/
def execLdLE (s : State) : Result := loadReg .l .e s

/-- LD L,H, 0x6C (R501). -/
def execLdLH (s : State) : Result := loadReg .l .h s

/-- LD L,L, 0x6D (R501). -/
def execLdLL (s : State) : Result := loadReg .l .l s

/-- LD L,(HL), 0x6E (R503). -/
def execLdLIndHL (s : State) : Result := loadByte .l s.hl s

/-- LD L,A, 0x6F (R501). -/
def execLdLA (s : State) : Result := loadReg .l .a s

/-- LD (HL),B, 0x70 (R504). -/
def execLdIndHLB (s : State) : Result := storeByte s.hl s.b s

/-- LD (HL),C, 0x71 (R504). -/
def execLdIndHLC (s : State) : Result := storeByte s.hl s.c s

/-- LD (HL),D, 0x72 (R504). -/
def execLdIndHLD (s : State) : Result := storeByte s.hl s.d s

/-- LD (HL),E, 0x73 (R504). -/
def execLdIndHLE (s : State) : Result := storeByte s.hl s.e s

/-- LD (HL),H, 0x74 (R504). -/
def execLdIndHLH (s : State) : Result := storeByte s.hl s.h s

/-- LD (HL),L, 0x75 (R504). -/
def execLdIndHLL (s : State) : Result := storeByte s.hl s.l s

/-- LD (HL),A, 0x77 (R504). -/
def execLdIndHLA (s : State) : Result := storeByte s.hl s.a s

/-- LD A,B, 0x78 (R501). -/
def execLdAB (s : State) : Result := loadReg .a .b s

/-- LD A,C, 0x79 (R501). -/
def execLdAC (s : State) : Result := loadReg .a .c s

/-- LD A,D, 0x7A (R501). -/
def execLdAD (s : State) : Result := loadReg .a .d s

/-- LD A,E, 0x7B (R501). -/
def execLdAE (s : State) : Result := loadReg .a .e s

/-- LD A,H, 0x7C (R501). -/
def execLdAH (s : State) : Result := loadReg .a .h s

/-- LD A,L, 0x7D (R501). -/
def execLdAL (s : State) : Result := loadReg .a .l s

/-- LD A,(HL), 0x7E (R503). -/
def execLdAIndHL (s : State) : Result := loadByte .a s.hl s

/-- LD A,A, 0x7F (R501). -/
def execLdAA (s : State) : Result := loadReg .a .a s

/-- LDH (n8),A, 0xE0 (R513). -/
def execLdhIndN8A (n : Byte) (s : State) : Result := storeByte (highPage n) s.a s

/-- LD (C),A, 0xE2 (R515). -/
def execLdIndCA (s : State) : Result := storeByte (highPage s.c) s.a s

/-- LD (n16),A, 0xEA (R511). -/
def execLdIndN16A (nn : Word) (s : State) : Result := storeByte nn s.a s

/-- LDH A,(n8), 0xF0 (R512). -/
def execLdhAIndN8 (n : Byte) (s : State) : Result := loadByte .a (highPage n) s

/-- LD A,(C), 0xF2 (R514). -/
def execLdAIndC (s : State) : Result := loadByte .a (highPage s.c) s

/-- LD A,(n16), 0xFA (R510). -/
def execLdAIndN16 (nn : Word) (s : State) : Result := loadByte .a nn s

end Sys2Proof.Machine
end

