-- ==== Sys2Proof/Machine/Rotate.lean ====
section
/-! DEFINITION. The accumulator rotates and the CB rotates and shifts (45_rotate_shift_bit.md R901..R920). -/

namespace Sys2Proof.Machine

open Sys2Proof

/-- The unprefixed rotates of A: Z = N = H = 0, C the bit shifted out (R901..R904). -/
def rotateA (f : Byte → Bool → Shifted) (s : State) : Result :=
  .next ((s.setR8 .a (f s.a s.fC).val).setFlags false false false (f s.a s.fC).out)

/-- The CB rotate or shift an operation names, with the carry before it (R905..R919). -/
def shifted (op : RotOp) (v : Byte) (carry : Bool) : Shifted :=
  match op with
  | .rlc => rlc8 v
  | .rrc => rrc8 v
  | .rl => rl8 v carry
  | .rr => rr8 v carry
  | .sla => sla8 v
  | .sra => sra8 v
  | .swap => swap8 v
  | .srl => srl8 v

/-- Z from the result, N = H = 0, C the bit shifted out. -/
def State.shiftFlags (s : State) (r : Shifted) : State := s.setFlags (r.val == 0) false false r.out

/-- A CB rotate or shift of a register (R905..R919). -/
def shiftReg (op : RotOp) (r : R8) (s : State) : Result :=
  .next ((s.setR8 r (shifted op (s.r8 r) s.fC).val).shiftFlags (shifted op (s.r8 r) s.fC))

/-- A CB rotate or shift of (HL): one read, then one write of the same address (R900, R906..R920). -/
def shiftHL (op : RotOp) (s : State) : Result :=
  (readByte s s.hl).finish fun v s1 =>
    (writeByte s1 s1.hl (shifted op v s1.fC).val).finish fun _ s2 => .next (s2.shiftFlags (shifted op v s1.fC))

/-! ### Meanings -/

/-- RLCA, 0x07 (R901). -/
def execRlca (s : State) : Result := rotateA (fun v _ => rlc8 v) s

/-- RRCA, 0x0F (R902). -/
def execRrca (s : State) : Result := rotateA (fun v _ => rrc8 v) s

/-- RLA, 0x17 (R903). -/
def execRla (s : State) : Result := rotateA rl8 s

/-- RRA, 0x1F (R904). -/
def execRra (s : State) : Result := rotateA rr8 s

/-- RLC B, CB 0x00 (R905). -/
def execRlcB (s : State) : Result := shiftReg .rlc .b s

/-- RLC C, CB 0x01 (R905). -/
def execRlcC (s : State) : Result := shiftReg .rlc .c s

/-- RLC D, CB 0x02 (R905). -/
def execRlcD (s : State) : Result := shiftReg .rlc .d s

/-- RLC E, CB 0x03 (R905). -/
def execRlcE (s : State) : Result := shiftReg .rlc .e s

/-- RLC H, CB 0x04 (R905). -/
def execRlcH (s : State) : Result := shiftReg .rlc .h s

/-- RLC L, CB 0x05 (R905). -/
def execRlcL (s : State) : Result := shiftReg .rlc .l s

/-- RLC (HL), CB 0x06 (R906). -/
def execRlcIndHL (s : State) : Result := shiftHL .rlc s

/-- RLC A, CB 0x07 (R905). -/
def execRlcA (s : State) : Result := shiftReg .rlc .a s

/-- RRC B, CB 0x08 (R907). -/
def execRrcB (s : State) : Result := shiftReg .rrc .b s

/-- RRC C, CB 0x09 (R907). -/
def execRrcC (s : State) : Result := shiftReg .rrc .c s

/-- RRC D, CB 0x0A (R907). -/
def execRrcD (s : State) : Result := shiftReg .rrc .d s

/-- RRC E, CB 0x0B (R907). -/
def execRrcE (s : State) : Result := shiftReg .rrc .e s

/-- RRC H, CB 0x0C (R907). -/
def execRrcH (s : State) : Result := shiftReg .rrc .h s

/-- RRC L, CB 0x0D (R907). -/
def execRrcL (s : State) : Result := shiftReg .rrc .l s

/-- RRC (HL), CB 0x0E (R908). -/
def execRrcIndHL (s : State) : Result := shiftHL .rrc s

/-- RRC A, CB 0x0F (R907). -/
def execRrcA (s : State) : Result := shiftReg .rrc .a s

/-- RL B, CB 0x10 (R909). -/
def execRlB (s : State) : Result := shiftReg .rl .b s

/-- RL C, CB 0x11 (R909). -/
def execRlC (s : State) : Result := shiftReg .rl .c s

/-- RL D, CB 0x12 (R909). -/
def execRlD (s : State) : Result := shiftReg .rl .d s

/-- RL E, CB 0x13 (R909). -/
def execRlE (s : State) : Result := shiftReg .rl .e s

/-- RL H, CB 0x14 (R909). -/
def execRlH (s : State) : Result := shiftReg .rl .h s

/-- RL L, CB 0x15 (R909). -/
def execRlL (s : State) : Result := shiftReg .rl .l s

/-- RL (HL), CB 0x16 (R910). -/
def execRlIndHL (s : State) : Result := shiftHL .rl s

/-- RL A, CB 0x17 (R909). -/
def execRlA (s : State) : Result := shiftReg .rl .a s

/-- RR B, CB 0x18 (R911). -/
def execRrB (s : State) : Result := shiftReg .rr .b s

/-- RR C, CB 0x19 (R911). -/
def execRrC (s : State) : Result := shiftReg .rr .c s

/-- RR D, CB 0x1A (R911). -/
def execRrD (s : State) : Result := shiftReg .rr .d s

/-- RR E, CB 0x1B (R911). -/
def execRrE (s : State) : Result := shiftReg .rr .e s

/-- RR H, CB 0x1C (R911). -/
def execRrH (s : State) : Result := shiftReg .rr .h s

/-- RR L, CB 0x1D (R911). -/
def execRrL (s : State) : Result := shiftReg .rr .l s

/-- RR (HL), CB 0x1E (R912). -/
def execRrIndHL (s : State) : Result := shiftHL .rr s

/-- RR A, CB 0x1F (R911). -/
def execRrA (s : State) : Result := shiftReg .rr .a s

/-- SLA B, CB 0x20 (R913). -/
def execSlaB (s : State) : Result := shiftReg .sla .b s

/-- SLA C, CB 0x21 (R913). -/
def execSlaC (s : State) : Result := shiftReg .sla .c s

/-- SLA D, CB 0x22 (R913). -/
def execSlaD (s : State) : Result := shiftReg .sla .d s

/-- SLA E, CB 0x23 (R913). -/
def execSlaE (s : State) : Result := shiftReg .sla .e s

/-- SLA H, CB 0x24 (R913). -/
def execSlaH (s : State) : Result := shiftReg .sla .h s

/-- SLA L, CB 0x25 (R913). -/
def execSlaL (s : State) : Result := shiftReg .sla .l s

/-- SLA (HL), CB 0x26 (R914). -/
def execSlaIndHL (s : State) : Result := shiftHL .sla s

/-- SLA A, CB 0x27 (R913). -/
def execSlaA (s : State) : Result := shiftReg .sla .a s

/-- SRA B, CB 0x28 (R915). -/
def execSraB (s : State) : Result := shiftReg .sra .b s

/-- SRA C, CB 0x29 (R915). -/
def execSraC (s : State) : Result := shiftReg .sra .c s

/-- SRA D, CB 0x2A (R915). -/
def execSraD (s : State) : Result := shiftReg .sra .d s

/-- SRA E, CB 0x2B (R915). -/
def execSraE (s : State) : Result := shiftReg .sra .e s

/-- SRA H, CB 0x2C (R915). -/
def execSraH (s : State) : Result := shiftReg .sra .h s

/-- SRA L, CB 0x2D (R915). -/
def execSraL (s : State) : Result := shiftReg .sra .l s

/-- SRA (HL), CB 0x2E (R916). -/
def execSraIndHL (s : State) : Result := shiftHL .sra s

/-- SRA A, CB 0x2F (R915). -/
def execSraA (s : State) : Result := shiftReg .sra .a s

/-- SWAP B, CB 0x30 (R917). -/
def execSwapB (s : State) : Result := shiftReg .swap .b s

/-- SWAP C, CB 0x31 (R917). -/
def execSwapC (s : State) : Result := shiftReg .swap .c s

/-- SWAP D, CB 0x32 (R917). -/
def execSwapD (s : State) : Result := shiftReg .swap .d s

/-- SWAP E, CB 0x33 (R917). -/
def execSwapE (s : State) : Result := shiftReg .swap .e s

/-- SWAP H, CB 0x34 (R917). -/
def execSwapH (s : State) : Result := shiftReg .swap .h s

/-- SWAP L, CB 0x35 (R917). -/
def execSwapL (s : State) : Result := shiftReg .swap .l s

/-- SWAP (HL), CB 0x36 (R918). -/
def execSwapIndHL (s : State) : Result := shiftHL .swap s

/-- SWAP A, CB 0x37 (R917). -/
def execSwapA (s : State) : Result := shiftReg .swap .a s

/-- SRL B, CB 0x38 (R919). -/
def execSrlB (s : State) : Result := shiftReg .srl .b s

/-- SRL C, CB 0x39 (R919). -/
def execSrlC (s : State) : Result := shiftReg .srl .c s

/-- SRL D, CB 0x3A (R919). -/
def execSrlD (s : State) : Result := shiftReg .srl .d s

/-- SRL E, CB 0x3B (R919). -/
def execSrlE (s : State) : Result := shiftReg .srl .e s

/-- SRL H, CB 0x3C (R919). -/
def execSrlH (s : State) : Result := shiftReg .srl .h s

/-- SRL L, CB 0x3D (R919). -/
def execSrlL (s : State) : Result := shiftReg .srl .l s

/-- SRL (HL), CB 0x3E (R920). -/
def execSrlIndHL (s : State) : Result := shiftHL .srl s

/-- SRL A, CB 0x3F (R919). -/
def execSrlA (s : State) : Result := shiftReg .srl .a s

end Sys2Proof.Machine
end

