-- ==== Sys2Proof/Machine/System.lean ====
section
/-! DEFINITION. System and miscellaneous instructions (47_system.md). -/

namespace Sys2Proof.Machine

open Sys2Proof

/-- Nothing: the pc advance of the fetch is the whole effect (R1100). -/
def noEffect (s : State) : Result := .next s

/-- `halted <- true` (R1101). -/
def setHalted (s : State) : Result := .next { s with halted := true }

/-- `IME <- v`, at once (R1103, R1104). -/
def setIME (v : Bool) (s : State) : Result := .next { s with ime := v }

/-- The register of an r8 field value; 6 names (HL) (30_encoding.md R303). -/
def r8OfField (z : Nat) : Option R8 :=
  [some R8.b, some .c, some .d, some .e, some .h, some .l, none, some .a].getD z none

/-- The rotate or shift of a field value y (30_encoding.md R307). -/
def rotOfField (y : Nat) : RotOp := [RotOp.rlc, .rrc, .rl, .rr, .sla, .sra, .swap, .srl].getD y .rlc

/-- The effect of the CB instruction that a sub-opcode names, by its fields `x yyy zzz` (30_encoding.md R307). -/
def cbEffect (sub : Byte) (s : State) : Result :=
  let x := sub.toNat / 64
  let y := sub.toNat / 8 % 8
  match x, r8OfField (sub.toNat % 8) with
  | 0, some r => shiftReg (rotOfField y) r s
  | 0, none => shiftHL (rotOfField y) s
  | 1, some r => testBitReg y r s
  | 1, none => testBitHL y s
  | 2, some r => resetBitReg y r s
  | 2, none => resetBitHL y s
  | _, some r => setBitReg y r s
  | _, none => setBitHL y s

/-! ### Meanings -/

/-- NOP, 0x00 (R1100). -/
def execNop (s : State) : Result := noEffect s

/-- STOP, 0x10 (R1102). -/
def execStop (_n : Byte) (s : State) : Result := stopUnimplemented (.base 0x10) s

/-- HALT, 0x76 (R1101). -/
def execHalt (s : State) : Result := setHalted s

/-- PREFIX CB, 0xCB (R1105). -/
def execPrefixCb (sub : Byte) (s : State) : Result := cbEffect sub s

/-- Unassigned opcode 0xD3 (R1106). -/
def execUnassignedD3 (s : State) : Result := stopUnimplemented (.base 0xD3) s

/-- Unassigned opcode 0xDB (R1106). -/
def execUnassignedDB (s : State) : Result := stopUnimplemented (.base 0xDB) s

/-- Unassigned opcode 0xDD (R1106). -/
def execUnassignedDD (s : State) : Result := stopUnimplemented (.base 0xDD) s

/-- Unassigned opcode 0xE3 (R1106). -/
def execUnassignedE3 (s : State) : Result := stopUnimplemented (.base 0xE3) s

/-- Unassigned opcode 0xE4 (R1106). -/
def execUnassignedE4 (s : State) : Result := stopUnimplemented (.base 0xE4) s

/-- Unassigned opcode 0xEB (R1106). -/
def execUnassignedEB (s : State) : Result := stopUnimplemented (.base 0xEB) s

/-- Unassigned opcode 0xEC (R1106). -/
def execUnassignedEC (s : State) : Result := stopUnimplemented (.base 0xEC) s

/-- Unassigned opcode 0xED (R1106). -/
def execUnassignedED (s : State) : Result := stopUnimplemented (.base 0xED) s

/-- DI, 0xF3 (R1103). -/
def execDi (s : State) : Result := setIME false s

/-- Unassigned opcode 0xF4 (R1106). -/
def execUnassignedF4 (s : State) : Result := stopUnimplemented (.base 0xF4) s

/-- EI, 0xFB (R1104). -/
def execEi (s : State) : Result := setIME true s

/-- Unassigned opcode 0xFC (R1106). -/
def execUnassignedFC (s : State) : Result := stopUnimplemented (.base 0xFC) s

/-- Unassigned opcode 0xFD (R1106). -/
def execUnassignedFD (s : State) : Result := stopUnimplemented (.base 0xFD) s

end Sys2Proof.Machine
end

