-- ==== Sys2Proof/Machine/Ppu.lean ====
section
/-! DEFINITION. The PPU: the scanline state machine and the line renderer (48_ppu.md). -/

namespace Sys2Proof.Machine

open Sys2Proof

/-! ### The renderer -/

/-- `VramByte(addr)` for an address in 0x8000..0x9FFF: the storage byte, no side effect (20_memory.md R214). -/
def vramByte (s : State) (addr : Nat) : Byte := s.ram.read addr

/-- `OamByte(i)` (20_memory.md R214). -/
def oamByte (s : State) (i : Nat) : Byte := s.ram.read (0xFE00 + i)

/-- An object the scan selected (48_ppu.md R1221). -/
structure Obj where
  index : Nat
  y : Nat
  x : Nat
  tile : Byte
  attr : Byte
  deriving DecidableEq, Repr

/-- The object height that `obj_size` selects (48_ppu.md R1221). -/
def objHeight (s : State) : Nat := if s.ppu.objSize then 16 else 8

/-- `ObjYOffset(h)` at the current height (92_eei_decisions.md D36). -/
def objYOffset (s : State) : Nat := if s.ppu.objSize then s.params.objYOffset16 else s.params.objYOffset8

/-- The OAM entry of an index: Y, X, tile, attributes (48_ppu.md R1221). -/
def oamEntry (s : State) (i : Nat) : Obj :=
  { index := i
    y := (oamByte s (4 * i)).toNat
    x := (oamByte s (4 * i + 1)).toNat
    tile := oamByte s (4 * i + 2)
    attr := oamByte s (4 * i + 3) }

/-- The screen line of an object's top row; it may be negative (48_ppu.md R1221). -/
def Obj.top (o : Obj) (s : State) : Int := (o.y : Int) - objYOffset s

/-- The line falls within the object's height (48_ppu.md R1221). -/
def onLine (s : State) (ly : Nat) (o : Obj) : Bool :=
  decide (o.top s ≤ ly) && decide ((ly : Int) < o.top s + objHeight s)

/-- `OamScan(ly)`: the first 10 visible entries in ascending index (48_ppu.md R1221). -/
def oamScan (s : State) (ly : Nat) : List Obj :=
  (((List.range 40).map (oamEntry s)).filter (onLine s ly)).take 10

/-- Composited before: higher X, and at equal X the higher index (48_ppu.md R1222). -/
def Obj.before (o p : Obj) : Bool := decide (p.x < o.x) || (o.x == p.x && decide (p.index < o.index))

/-- Put an object in its place. -/
def insertObj (o : Obj) : List Obj → List Obj
  | [] => [o]
  | p :: rest => if o.before p then o :: p :: rest else p :: insertObj o rest

/-- `SortForComposite(objs)` (48_ppu.md R1222). -/
def sortForComposite : List Obj → List Obj
  | [] => []
  | o :: rest => insertObj o (sortForComposite rest)

/-- `TilePixel(addr, row, col)`: the colour index of a pixel of a tile (48_ppu.md R1225). -/
def tilePixel (s : State) (addr row col : Nat) : BitVec 2 :=
  let lo := vramByte s (addr + 2 * row)
  let hi := vramByte s (addr + 2 * row + 1)
  BitVec.ofBool (hi.getLsbD (7 - col)) ++ BitVec.ofBool (lo.getLsbD (7 - col))

/-- The address of a background tile: unsigned from 0x8000, or signed from 0x9000 (48_ppu.md R1224). -/
def bgTileAddr (select : Bool) (idx : Byte) : Nat :=
  if select then 0x8000 + 16 * idx.toNat else ((0x9000 : Int) + 16 * idx.toInt).toNat

/-- `BgPixel(ly, px)`: the background's colour index and shade (48_ppu.md R1224). -/
def bgPixel (s : State) (ly px : Nat) : BitVec 2 × Shade :=
  let yy := (ly + s.ppu.scy.toNat) % 256
  let xx := (px + s.ppu.scx.toNat) % 256
  let mapBase := if s.ppu.bgMapSelect then 0x9C00 else 0x9800
  let idx := vramByte s (mapBase + 32 * (yy / 8) + xx / 8)
  let bci := tilePixel s (bgTileAddr s.ppu.tileDataSelect idx) (yy % 8) (xx % 8)
  (bci, s.ppu.bgp.shade bci)

/-- `ObjPixel(o, ly, px)`: the object's colour index there, or none outside its footprint (48_ppu.md R1226). -/
def objPixel (s : State) (o : Obj) (ly px : Nat) : Option (BitVec 2) :=
  let h := objHeight s
  let left : Int := (o.x : Int) - 8
  if left ≤ px ∧ (px : Int) < left + 8 then
    let row0 := ((ly : Int) - o.top s).toNat
    let col0 := ((px : Int) - left).toNat
    let row := if o.attr.getLsbD 6 then h - 1 - row0 else row0
    let col := if o.attr.getLsbD 5 then 7 - col0 else col0
    let tile : Byte := if h = 16 then (if row < 8 then o.tile &&& 0xFE else o.tile ||| 0x01) else o.tile
    let row' := if h = 16 then row % 8 else row
    some (tilePixel s (0x8000 + 16 * tile.toNat) row' col)
  else none

/-- One object over a pixel: it overwrites the shade if its colour index is not 0 and it has priority (48_ppu.md R1223). -/
def overlay (s : State) (ly px : Nat) (bci : BitVec 2) (shade : Shade) (o : Obj) : Shade :=
  match objPixel s o ly px with
  | none => shade
  | some c =>
    if !o.attr.getLsbD 7 || bci == 0 then
      ((if o.attr.getLsbD 4 then s.ppu.obp1 else s.ppu.obp0).shade c).getD shade
    else shade

/-- `ComposePixel(ly, px, objs)`: the shade of a pixel (48_ppu.md R1223). -/
def composePixel (s : State) (ly : Nat) (objs : List Obj) (px : Nat) : Shade :=
  let bg := if s.ppu.bgEnable then bgPixel s ly px else (0, 0)
  if s.ppu.objEnable then objs.foldl (overlay s ly px bg.1) bg.2 else bg.2

/-- `ShadeRGB(s)` (48_ppu.md R1227). -/
def shadeRGB (p : Params) : Shade → Rgb
  | 0 => p.shade0
  | 1 => p.shade1
  | 2 => p.shade2
  | _ => p.shade3

/-- The four bytes `WritePixel` writes: B, G, R, 0xFF (48_ppu.md R1228). -/
def pixelBytes (p : Params) (shade : Shade) : List Byte :=
  let c := shadeRGB p shade
  [c.b, c.g, c.r, 0xFF]

/-- The shades of a line's 160 pixels, left to right (48_ppu.md R1220). -/
def lineShades (s : State) (ly : Nat) : List Shade :=
  let objs := sortForComposite (oamScan s ly)
  (List.range 160).map (composePixel s ly objs)

/-- `RenderLine(ly, buf)`: the 160 pixels of row `ly`, from byte offset 4·160·ly on (48_ppu.md R1220, R1228). -/
def renderLine (s : State) (ly : Nat) : State :=
  { s with frame := s.frame.writeRow (4 * (160 * ly)) ((lineShades s ly).flatMap (pixelBytes s.params)) }

/-! ### The state machine -/

/-- `Budget(mode)` (48_ppu.md R1202). -/
def budget (p : Params) : PpuMode → Nat
  | .oamSearch => p.oamCycles
  | .drawing => p.drawCycles
  | .hBlank => p.hblankCycles
  | .vBlank => p.vblankLineCycles

/-- Change the PPU's state. -/
def State.setPpu (s : State) (p : Ppu) : State := { s with ppu := p }

/-- `EndOAMSearch()` (48_ppu.md R1211). -/
def endOAMSearch (s : State) : State := s.setPpu { s.ppu with mode := .drawing }

/-- `EndDrawing(buf)`: the whole line is rendered here (48_ppu.md R1212). -/
def endDrawing (s : State) : State := (renderLine s s.ppu.line).setPpu { s.ppu with mode := .hBlank }

/-- `EndHBlank()`: the next line, or VBlank with its request and report (48_ppu.md R1213). -/
def endHBlank (s : State) : State :=
  if s.ppu.line + 1 = 144 then
    { requestInterrupt 0 (s.setPpu { s.ppu with line := s.ppu.line + 1, mode := .vBlank }) with enteringVblank := true }
  else s.setPpu { s.ppu with line := s.ppu.line + 1, mode := .oamSearch }

/-- `EndVBlankLine()` (48_ppu.md R1214). -/
def endVBlankLine (s : State) : State :=
  if s.ppu.line = 153 then s.setPpu { s.ppu with line := 0, mode := .oamSearch }
  else s.setPpu { s.ppu with line := s.ppu.line + 1 }

/-- Subtract the current mode's budget from the counter (48_ppu.md R1210). -/
def payBudget (s : State) : State := s.setPpu { s.ppu with counter := s.ppu.counter - budget s.params s.ppu.mode }

/-- Pay the current mode's budget and take its transition (48_ppu.md R1210). -/
def ppuTransition (s : State) : State :=
  match s.ppu.mode with
  | .oamSearch => endOAMSearch (payBudget s)
  | .drawing => endDrawing (payBudget s)
  | .hBlank => endHBlank (payBudget s)
  | .vBlank => endVBlankLine (payBudget s)

/-- The loop of the tick. Every budget is positive, so each turn lowers the counter and `fuel` = the counter is enough. -/
def ppuLoop : Nat → State → State
  | 0, s => s
  | fuel + 1, s => if s.ppu.counter < budget s.params s.ppu.mode then s else ppuLoop fuel (ppuTransition s)

/-- `ppu.tick(k, buf)` (48_ppu.md R1201, R1210); its result is left in `enteringVblank`. -/
def ppuTick (k : Nat) (s : State) : State :=
  ppuLoop (s.ppu.counter + k) { s.setPpu { s.ppu with counter := s.ppu.counter + k } with enteringVblank := false }

end Sys2Proof.Machine
end

