-- ==== Sys2Proof/Machine/Engine.lean ====
section
/-! DEFINITION. The fetch-decode-execute engine (40_step.md R400..R407), the system step (R420), and how a word is placed
where the machine fetches. -/

namespace Sys2Proof.Machine

open Sys2Proof

/-! ### Fetch and decode -/

/-- Fetch the opcode byte, and after 0xCB the sub-opcode; pc moves past them (40_step.md R403, R404). -/
def fetchOpcode (s : State) : Access Opcode :=
  (fetch8 s).andThen fun op s1 =>
    if op = 0xCB then (fetch8 s1).andThen fun sub s2 => .ok (.cb sub) s2 else .ok (.base op) s1

/-- Fetch the immediate the descriptor asks for: the instruction with its operand, pc past all of it (40_step.md R404,
30_encoding.md R308). -/
def fetchOperand (op : Opcode) (s : State) : Access Instr :=
  match op with
  | .cb sub => .ok (cbInstr sub) s
  | .base b =>
    match baseDescriptor b with
    | .op i => .ok i s
    | .n8 f => (fetch8 s).andThen fun n s1 => .ok (f n) s1
    | .n16 f => (fetch16 s).andThen fun nn s1 => .ok (f nn) s1

/-! ### The CPU step -/

/-- The opcode is the run's debug breakpoint, a base opcode other than the prefix (40_step.md R400, R407). -/
def isBreakpoint (s : State) : Opcode → Option Byte
  | .base b => if s.params.breakpoint = some b then some b else none
  | .cb _ => none

/-- One instruction, or the stop its opcode raises; `s` is the state after the opcode fetch (40_step.md R405..R407). -/
def runOpcode (op : Opcode) (s : State) : Host.Outcome (State × StepKind) Fault Refusal :=
  match isBreakpoint s op with
  | some b => .next (raiseStop (.breakpoint b) s, .instr op false)
  | none =>
    if implemented s op then
      (fetchOperand op s).finish fun i s1 =>
        match exec i s1 with
        | .next s2 => .next (s2, .instr op (branchTaken op s1))
        | .fault f => .fault f
        | .refused r => .refused r
    else .next (raiseStop (.unimplemented op) s, .instr op false)

/-- `cpu.step()` with the kind of the step taken (40_step.md R400). -/
def cpuStep (s : State) : Host.Outcome (State × StepKind) Fault Refusal :=
  if dispatchDue s then (takeInterrupt s).finish fun _ s1 => .next (s1, .dispatch)
  else if s.halted then .next (s, .haltIdle)
  else (fetchOpcode s).finish runOpcode

/-! ### The system step -/

/-- The ticks that follow a CPU step of kind `k`: the agents', then the PPU's (40_step.md R420). -/
def ticks (k : StepKind) (s : State) : Result :=
  (agentsTick s).finish fun _ s1 => .next (ppuTick (stepCycles s1.params.stepCycles k) s1)

/-- `SystemStep()`: a CPU step, then the ticks unless it stopped the run (40_step.md R420); a run that has ended takes no
step (60_exceptions.md R1330). -/
def systemStep (s : State) : Result :=
  match s.run with
  | .stopped _ => .refused .runEnded
  | .running =>
    match cpuStep s with
    | .next (s1, k) =>
      match s1.run with
      | .running => ticks k s1
      | .stopped _ => .next s1
    | .fault f => .fault f
    | .refused r => .refused r

/-! ### Placing a word where the machine fetches -/

/-- The address holds storage that can be given contents: ROM or RAM, echo included. -/
def storable (addr : Word) : Bool :=
  match region addr with
  | .gap => false
  | .io => false
  | .ieSlot => false
  | _ => true

/-- Give a storage byte its contents from outside the machine: ROM included, the image grown if it is too short. -/
def placeByte (s : State) (addr : Word) (v : Byte) : State :=
  match region addr with
  | .romFixed => { s with rom := s.rom.write (romOffset s addr) v, romLen := max s.romLen (romOffset s addr + 1) }
  | .romBanked => { s with rom := s.rom.write (romOffset s addr) v, romLen := max s.romLen (romOffset s addr + 1) }
  | .echo => ramWrite s (addr.toNat - 0x2000) v
  | _ => ramWrite s addr.toNat v

/-- Place consecutive bytes. -/
def placeBytes : List Byte → Word → State → State
  | [], _, s => s
  | v :: rest, addr, s => placeBytes rest (addr + 1) (placeByte s addr v)

/-- Place three bytes at pc so that the very next step fetches and runs them: the run goes on, the CPU is awake, no interrupt
is taken first, and a pc whose bytes are not storage goes to the entry point (log entry 10). -/
def placeCode (bytes : List Byte) (s : State) : State :=
  let pc : Word := if storable s.pc && storable (s.pc + 1) && storable (s.pc + 2) then s.pc else 0x0100
  placeBytes bytes pc { s with pc := pc, run := .running, halted := false, ime := s.ime && !dispatchDue s }

end Sys2Proof.Machine
end

