-- ==== Sys2Proof/Machine/Step.lean ====
section
/-! DEFINITION. One step of the machine, which is one system step (40_step.md R420, 60_exceptions.md R1332), and the placing
of one instruction word where it fetches. -/

namespace Sys2Proof.Machine

open Sys2Proof

/-- One step: `SystemStep()` (40_step.md R420). -/
def step (s : State) : Host.Outcome State Fault Refusal := systemStep s

/-- The state with one table word stored where the next step fetches (log entry 10). -/
def State.withFetchWord (s : State) (nbits w : Nat) : State := placeCode (tableBytes nbits w) s

end Sys2Proof.Machine
end

