-- ==== Sys2Proof/Safety.lean ====
section
/-! DEFINITION. The terms in which claims speak: the invariant of a good state, when an access completes, which reads a write
can change, and the relations that gather the instructions of one shape with the address they use. -/

namespace Sys2Proof

/-! ### Encoding fields -/

/-- The field r8 of a register (30_encoding.md R303); 110 is (HL). -/
def R8.code : R8 → BitVec 3
  | .b => 0 | .c => 1 | .d => 2 | .e => 3 | .h => 4 | .l => 5 | .a => 7

/-- The field p of a register pair (30_encoding.md R304). -/
def RP.code : RP → BitVec 2
  | .bc => 0 | .de => 1 | .hl => 2 | .sp => 3

/-- The field p of a pushed or popped pair (30_encoding.md R304). -/
def RP2.code : RP2 → BitVec 2
  | .bc => 0 | .de => 1 | .hl => 2 | .af => 3

/-- The field cc of a condition (30_encoding.md R305). -/
def Cond.code : Cond → BitVec 2
  | .nz => 0 | .z => 1 | .nc => 2 | .c => 3

/-- The field y of an ALU operation (30_encoding.md R306). -/
def AluOp.code : AluOp → BitVec 3
  | .add => 0 | .adc => 1 | .sub => 2 | .sbc => 3 | .and => 4 | .xor => 5 | .or => 6 | .cp => 7

/-- The field y of a rotate or shift (30_encoding.md R307). -/
def RotOp.code : RotOp → BitVec 3
  | .rlc => 0 | .rrc => 1 | .rl => 2 | .rr => 3 | .sla => 4 | .sra => 5 | .swap => 6 | .srl => 7

/-- The bytes that select an opcode (30_encoding.md R300). -/
def Opcode.bytes : Opcode → List Byte
  | .base b => [b]
  | .cb sub => [0xCB, sub]

end Sys2Proof

namespace Sys2Proof.Machine

open Sys2Proof

/-! ### The invariant -/

/-- The RAM bytes that exist, under their non-echo addresses: VRAM, external RAM, WRAM, OAM, HRAM (10_state.md R113). -/
def isStorage (key : Nat) : Bool :=
  (decide (0x8000 ≤ key) && decide (key < 0xE000)) || (decide (0xFE00 ≤ key) && decide (key < 0xFEA0)) ||
    (decide (0xFF80 ≤ key) && decide (key < 0xFFFF))

/-- What holds in every reachable state. -/
structure State.Inv (s : State) : Prop where
  /-- Memories are in their canonical form, with cells only where bytes exist. -/
  rom_wf : s.rom.wf
  rom_keys : ∀ cell ∈ s.rom, cell.1 < s.romLen
  /-- The image has at least one bank (92_eei_decisions.md D52). -/
  rom_len : 0x4000 ≤ s.romLen
  ram_wf : s.ram.wf
  ram_keys : ∀ cell ∈ s.ram, isStorage cell.1 = true
  frame_wf : s.frame.wf
  frame_keys : ∀ cell ∈ s.frame, cell.1 < 4 * 160 * 144
  /-- The ROM bank register holds 1..31 (10_state.md R114). -/
  bank : 1 ≤ s.romBank ∧ s.romBank ≤ 31
  /-- The scanline is 0..153, and the mode is VBlank exactly from line 144 on (10_state.md R117, R118). -/
  line : s.ppu.line ≤ 153
  vblank : s.ppu.mode = .vBlank ↔ 144 ≤ s.ppu.line
  /-- Every budget is positive, and the counter is below the current one (48_ppu.md R1202, R1210). -/
  budgets : ∀ m, 0 < budget s.params m
  counter : s.ppu.counter < budget s.params s.ppu.mode
  /-- A slot has at most one owner (10_state.md R115). -/
  owners : (s.slots.map (·.slot)).Nodup

/-! ### Accesses -/

/-- The slot is registered. -/
def State.registered (s : State) (slot : Slot) : Bool := (lookupSlot s.slots slot).isSome

/-- A read of the address completes: a ROM read lies in the image (20_memory.md R209), an IE read needs the slot registered
(R207), and every other read completes. -/
def State.readable (s : State) (addr : Word) : Bool :=
  match region addr with
  | .romFixed => decide (romOffset s addr < s.romLen)
  | .romBanked => decide (romOffset s addr < s.romLen)
  | .ieSlot => s.registered .ie
  | _ => true

/-- A write of the address completes: an IE write needs the slot registered (20_memory.md R207). -/
def State.writable (s : State) (addr : Word) : Bool :=
  match region addr with
  | .ieSlot => s.registered .ie
  | _ => true

/-- The byte a read of the address would give now, if it completes. -/
def State.peek (s : State) (addr : Word) : Option Byte := (readByte s addr).value

/-- A read of the address draws a fresh value: STAT or a peripheral's slot (10_state.md R121, 20_memory.md R213). -/
def State.drawsAt (s : State) (addr : Word) : Bool :=
  let fresh := fun slot =>
    match lookupSlot s.slots slot with
    | some e => e.read == some .stat || e.read == some .external
    | none => false
  match region addr with
  | .io => fresh (.io (addr.toNat - 0xFF00))
  | .ieSlot => fresh .ie
  | _ => false

/-- The address under which a byte is held: echo RAM is held 0x2000 lower (20_memory.md R205). -/
def homeAddr (addr : Word) : Nat := if region addr = .echo then addr.toNat - 0x2000 else addr.toNat

/-- A write to `addr` can change what a read of `other` gives: both name one byte, or the write is a bank select and the
read is of the banked window (20_memory.md R205, R210). -/
def State.touches (s : State) (addr other : Word) : Bool :=
  homeAddr addr == homeAddr other ||
    (s.hasMBC1 && decide (0x2000 ≤ addr.toNat) && decide (addr.toNat < 0x4000) && decide (0x4000 ≤ other.toNat) &&
      decide (other.toNat < 0x8000))

/-- Either byte of a word write to `addr` can change what a read of `other` gives. -/
def State.wordTouches (s : State) (addr other : Word) : Bool := s.touches addr other || s.touches (addr + 1) other

/-- `t` differs from `s` at most in the number of free values drawn: a read changes nothing else. -/
def SameButDraws (s t : State) : Prop := t = { s with draws := t.draws }

/-- `t` differs from `s` at most in storage: RAM, the bank register, the CPU's and PPU's slot registers, recorded events. No
general register, flag, SP, pc, IME or halted state differs. -/
def SameButStorage (s t : State) : Prop :=
  t = { s with romBank := t.romBank, ram := t.ram, ifr := t.ifr, ie := t.ie, ppu := t.ppu, periphWrites := t.periphWrites }

/-- Bytes at pc and after it read as `code` without any effect. -/
def CodeAt (s : State) (code : List Byte) : Prop :=
  ∀ k (h : k < code.length), readByte s (s.pc + BitVec.ofNat 16 k) = .ok code[k] s

/-- The opcode at the head of an instruction's bytes (40_step.md R403). -/
def opcodeOf : List Byte → Option Opcode
  | op :: rest => if op = 0xCB then rest.head?.map .cb else some (.base op)
  | [] => none

/-- The length an opcode's first byte fixes (30_encoding.md R300). -/
def lengthOf (op : Byte) : Nat :=
  match baseDescriptor op with
  | .op _ => 1
  | .n8 _ => 2
  | .n16 _ => 3

/-- No interrupt is dispatched by the coming step (60_exceptions.md R1301). -/
def NoDispatch (s : State) : Prop := s.ime = false ∨ s.ifr &&& s.ie &&& 0x1F = 0

/-- When a condition holds (30_encoding.md R305). -/
def condHolds (cc : Cond) (s : State) : Prop :=
  match cc with
  | .nz => s.fZ = false
  | .z => s.fZ = true
  | .nc => s.fC = false
  | .c => s.fC = true

/-! ### Cycles -/

/-- The base opcodes' cells of 70_reset_and_hazards.md R1430 that hold one count, transcribed row by row; 0 stands where the
cell holds two counts (a conditional transfer) or none (0xCB and the unassigned opcodes). -/
def singleCountRows : List (List Nat) :=
  [[4, 12, 8, 8, 4, 4, 8, 4, 20, 8, 8, 8, 4, 4, 8, 4],
   [4, 12, 8, 8, 4, 4, 8, 4, 12, 8, 8, 8, 4, 4, 8, 4],
   [0, 12, 8, 8, 4, 4, 8, 4, 0, 8, 8, 8, 4, 4, 8, 4],
   [0, 12, 8, 8, 12, 12, 12, 4, 0, 8, 8, 8, 4, 4, 8, 4],
   [4, 4, 4, 4, 4, 4, 8, 4, 4, 4, 4, 4, 4, 4, 8, 4],
   [4, 4, 4, 4, 4, 4, 8, 4, 4, 4, 4, 4, 4, 4, 8, 4],
   [4, 4, 4, 4, 4, 4, 8, 4, 4, 4, 4, 4, 4, 4, 8, 4],
   [8, 8, 8, 8, 8, 8, 4, 8, 4, 4, 4, 4, 4, 4, 8, 4]] ++
  [[4, 4, 4, 4, 4, 4, 8, 4, 4, 4, 4, 4, 4, 4, 8, 4],
   [4, 4, 4, 4, 4, 4, 8, 4, 4, 4, 4, 4, 4, 4, 8, 4],
   [4, 4, 4, 4, 4, 4, 8, 4, 4, 4, 4, 4, 4, 4, 8, 4],
   [4, 4, 4, 4, 4, 4, 8, 4, 4, 4, 4, 4, 4, 4, 8, 4],
   [0, 12, 0, 16, 0, 16, 8, 16, 0, 16, 0, 0, 0, 24, 8, 16],
   [0, 12, 0, 0, 0, 16, 8, 16, 0, 16, 0, 0, 0, 0, 8, 16],
   [12, 12, 8, 0, 0, 16, 8, 16, 16, 4, 16, 0, 0, 0, 8, 16],
   [12, 12, 8, 4, 0, 16, 8, 16, 12, 8, 16, 4, 0, 0, 8, 16]]

/-- The one count of a base opcode in R1430's table, 0 where it has two or none. -/
def singleCount (b : Byte) : Nat := (singleCountRows.getD (b.toNat / 16) []).getD (b.toNat % 16) 0

/-! ### Rotates and shifts, bit by bit -/

/-- The result of a CB rotate or shift as a concatenation of bits, most significant first (45_rotate_shift_bit.md R905..R919). -/
def rotated (op : RotOp) (v : Byte) (carry : Bool) : Byte :=
  match op with
  | .rlc => v.extractLsb' 0 7 ++ v.extractLsb' 7 1
  | .rrc => v.extractLsb' 0 1 ++ v.extractLsb' 1 7
  | .rl => v.extractLsb' 0 7 ++ BitVec.ofBool carry
  | .rr => BitVec.ofBool carry ++ v.extractLsb' 1 7
  | .sla => v.extractLsb' 0 7 ++ (0 : BitVec 1)
  | .sra => v.extractLsb' 7 1 ++ v.extractLsb' 1 7
  | .swap => v.extractLsb' 0 4 ++ v.extractLsb' 4 4
  | .srl => (0 : BitVec 1) ++ v.extractLsb' 1 7

/-- The carry a CB rotate or shift leaves: the bit it shifts out; none for SWAP (45_rotate_shift_bit.md R905..R919). -/
def shiftedOut (op : RotOp) (v : Byte) : Bool :=
  match op with
  | .rlc => v.getLsbD 7
  | .rrc => v.getLsbD 0
  | .rl => v.getLsbD 7
  | .rr => v.getLsbD 0
  | .sla => v.getLsbD 7
  | .sra => v.getLsbD 0
  | .swap => false
  | .srl => v.getLsbD 0

/-! ### Instructions of one shape -/

/-- `i` loads register `r` from the byte at `addr` and does nothing else (41_load8.md R503, R506, R507, R510, R512, R514). -/
inductive LoadsByte (s : State) : Instr → R8 → Word → Prop where
  | fromHL (r : R8) : LoadsByte s (.ldFromHL r) r s.hl
  | fromBC : LoadsByte s .ldAIndBC .a s.bc
  | fromDE : LoadsByte s .ldAIndDE .a s.de
  | fromN16 (nn : Word) : LoadsByte s (.ldAIndN16 nn) .a nn
  | highN8 (n : Byte) : LoadsByte s (.ldhAIndN8 n) .a (0xFF00 + n.setWidth 16)
  | highC : LoadsByte s .ldAIndC .a (0xFF00 + s.c.setWidth 16)

/-- `i` stores the byte `v` at `addr` and does nothing else (41_load8.md R504, R505, R508, R509, R511, R513, R515). -/
inductive StoresByte (s : State) : Instr → Word → Byte → Prop where
  | toHL (r : R8) : StoresByte s (.ldToHL r) s.hl (s.r8 r)
  | immHL (n : Byte) : StoresByte s (.ldIndHLN8 n) s.hl n
  | toBC : StoresByte s .ldIndBCA s.bc s.a
  | toDE : StoresByte s .ldIndDEA s.de s.a
  | toN16 (nn : Word) : StoresByte s (.ldIndN16A nn) nn s.a
  | highN8 (n : Byte) : StoresByte s (.ldhIndN8A n) (0xFF00 + n.setWidth 16) s.a
  | highC : StoresByte s .ldIndCA (0xFF00 + s.c.setWidth 16) s.a

/-- `i` is the ALU operation `op` on A with the operand `x`, from a register or an immediate (43_alu8.md R700). -/
inductive AluOperand (s : State) : Instr → AluOp → Byte → Prop where
  | reg (op : AluOp) (r : R8) : AluOperand s (.aluR op r) op (s.r8 r)
  | imm (op : AluOp) (n : Byte) : AluOperand s (.aluN op n) op n

/-- `i` reads the byte at HL, writes `f` of it back, and leaves the flags that `g` gives of it (INC, DEC, the CB rotates and
shifts, RES and SET of (HL); 43_alu8.md R728, R730, 45_rotate_shift_bit.md R900). -/
inductive ModifiesHL (s : State) : Instr → (Byte → Byte) → (Byte → State → State) → Prop where
  | inc : ModifiesHL s .incIndHL (· + 1)
      fun o t => { t with fZ := o + 1 == 0, fN := true, fH := decide (o.toNat % 16 = 15) }
  | dec : ModifiesHL s .decIndHL (· - 1)
      fun o t => { t with fZ := o - 1 == 0, fN := true, fH := decide (o.toNat % 16 = 0) }
  | rot (op : RotOp) : ModifiesHL s (.rotHL op) (fun v => rotated op v s.fC)
      fun v t => { t with fZ := rotated op v s.fC == 0, fN := false, fH := false, fC := shiftedOut op v }
  | res (b : BitNo) : ModifiesHL s (.resHL b) (fun v => v &&& ~~~((1 : Byte) <<< b.toNat)) fun _ t => t
  | set (b : BitNo) : ModifiesHL s (.setHL b) (fun v => v ||| (1 : Byte) <<< b.toNat) fun _ t => t

/-- `i` pushes the word `v` and goes on at `next` (42_load16.md R605, R608, 46_control.md R1006, R1007 taken, R1010). -/
inductive Pushes (s : State) : Instr → (v next : Word) → Prop where
  | pair (p : RP2) : Pushes s (.push p) (s.rp2 p) s.pc
  | call (nn : Word) : Pushes s (.callN16 nn) s.pc nn
  | callCond (cc : Cond) (nn : Word) : condHolds cc s → Pushes s (.callCond cc nn) s.pc nn
  | rst (t : RstNo) : Pushes s (.rst t) s.pc (BitVec.ofNat 16 (8 * t.toNat))

/-- The instructions that write a flag (10_state.md R106). -/
inductive WritesFlags : Instr → Prop where
  | aluR (op : AluOp) (r : R8) : WritesFlags (.aluR op r)
  | aluHL (op : AluOp) : WritesFlags (.aluHL op)
  | aluN (op : AluOp) (n : Byte) : WritesFlags (.aluN op n)
  | incR (r : R8) : WritesFlags (.incR r)
  | decR (r : R8) : WritesFlags (.decR r)
  | incHL : WritesFlags .incIndHL
  | decHL : WritesFlags .decIndHL
  | daa : WritesFlags .daa
  | cpl : WritesFlags .cpl
  | scf : WritesFlags .scf
  | ccf : WritesFlags .ccf
  | addHL (p : RP) : WritesFlags (.addHL p)
  | addSP (e : Byte) : WritesFlags (.addSPE8 e)
  | ldHLSP (e : Byte) : WritesFlags (.ldHLSPE8 e)
  | rlca : WritesFlags .rlca
  | rrca : WritesFlags .rrca
  | rla : WritesFlags .rla
  | rra : WritesFlags .rra
  | rotR (op : RotOp) (r : R8) : WritesFlags (.rotR op r)
  | rotHL (op : RotOp) : WritesFlags (.rotHL op)
  | bitR (b : BitNo) (r : R8) : WritesFlags (.bitR b r)
  | bitHL (b : BitNo) : WritesFlags (.bitHL b)
  | popAF : WritesFlags (.pop .af)
  | prefixCb (sub : Byte) : WritesFlags (.prefixCb sub)

end Sys2Proof.Machine
end

