-- ==== Sys2Proof/Certificates/Slice0/Obligations.lean ====
section
/-! DEFINITION. The statements for the provers. Free values (`Config.statRead`, `Config.periphRead`) occur only as themselves:
no statement rests on what they are. -/

open Sys2Proof Sys2Proof.Machine

/-! ### Encoding -/

/-- Decoding an encoded well-formed instruction gives it back, with every operand, whatever bytes follow. -/
def Obligations.DecodeEncodeRoundTrip : Prop :=
  ∀ (i : Instr) (rest : List Byte), i.wf = true → decode (encode i ++ rest) = .ok (i, rest)

/-- Bytes that decode are the encoding of what they decode to, which is well-formed: each word has one meaning. -/
def Obligations.EncodeDecodeRoundTrip : Prop :=
  ∀ (bytes rest : List Byte) (i : Instr), decode bytes = .ok (i, rest) → i.wf = true ∧ bytes = encode i ++ rest

/-- Three bytes always decode (30_encoding.md R313), an instruction is 1 to 3 bytes long, its first byte alone fixes its
length, and after 0xCB the length is 2 (R300). -/
def Obligations.DecodingIsTotalAndTheFirstByteFixesTheLength : Prop :=
  (∀ bytes : List Byte, 3 ≤ bytes.length → ∃ i rest, decode bytes = .ok (i, rest) ∧ i.wf = true) ∧
    (∀ i : Instr, 1 ≤ (encode i).length ∧ (encode i).length ≤ 3) ∧
    (∀ i j : Instr, (encode i).head? = (encode j).head? → (encode i).length = (encode j).length) ∧
    ∀ i : Instr, (encode i).head? = some 0xCB → (encode i).length = 2

/-- Words written out from the spec's encodings decode to the instructions they stand for; the byte after 0xCB is always a
sub-opcode, even 0xCB itself (30_encoding.md R313). -/
def Obligations.SpecWordsDecode : Prop :=
  decode [0b00000000] = .ok (.nop, []) ∧
    decode [0b01000001] = .ok (.ldBC, []) ∧
    decode [0b00110110, 0x5A] = .ok (.ldIndHLN8 0x5A, []) ∧
    decode [0b11111010, 0x44, 0xFF] = .ok (.ldAIndN16 0xFF44, []) ∧
    decode [0b00001000, 0x00, 0xC0] = .ok (.ldIndN16SP 0xC000, []) ∧
    decode [0b10001011] = .ok (.adcAE, []) ∧
    decode [0b11111110, 0x3C] = .ok (.cpN8 0x3C, []) ∧
    decode [0b00101001] = .ok (.addHLHL, []) ∧
    decode [0b00000111] = .ok (.rlca, []) ∧
    decode [0xCB, 0b00110111] = .ok (.swapA, []) ∧
    decode [0xCB, 0b01100110] = .ok (.bit4IndHL, []) ∧
    decode [0xCB, 0xCB] = .ok (.set1E, []) ∧
    decode [0b11011100, 0x00, 0x20] = .ok (.callCN16 0x2000, []) ∧
    decode [0b00100000, 0xFB] = .ok (.jrNZE8 0xFB, []) ∧
    decode [0b01110110] = .ok (.halt, []) ∧
    decode [0b11101101] = .ok (.unassignedED, [])

/-- Every instruction with an opcode field has the field in the place the spec's bit pattern gives it (30_encoding.md R302 to
R307, and the encoding lines of the instruction rules). -/
def Obligations.EncodingsFollowTheFieldPatterns : Prop :=
  (∀ dst src : R8, encode (.ldR dst src) = [0b01#2 ++ dst.code ++ src.code]) ∧
    (∀ (dst : R8) (n : Byte), encode (.ldN dst n) = [0b00#2 ++ dst.code ++ 0b110#3, n]) ∧
    (∀ dst : R8, encode (.ldFromHL dst) = [0b01#2 ++ dst.code ++ 0b110#3]) ∧
    (∀ src : R8, encode (.ldToHL src) = [0b01110#5 ++ src.code]) ∧
    (∀ (p : RP) (nn : Word), encode (.ldRP p nn) = [0b00#2 ++ p.code ++ 0b0001#4, loByte nn, hiByte nn]) ∧
    (∀ p : RP2, encode (.push p) = [0b11#2 ++ p.code ++ 0b0101#4] ∧ encode (.pop p) = [0b11#2 ++ p.code ++ 0b0001#4]) ∧
    (∀ (op : AluOp) (src : R8), encode (.aluR op src) = [0b10#2 ++ op.code ++ src.code]) ∧
    (∀ (op : AluOp) (n : Byte), encode (.aluHL op) = [0b10#2 ++ op.code ++ 0b110#3] ∧
      encode (.aluN op n) = [0b11#2 ++ op.code ++ 0b110#3, n]) ∧
    (∀ dst : R8, encode (.incR dst) = [0b00#2 ++ dst.code ++ 0b100#3] ∧
      encode (.decR dst) = [0b00#2 ++ dst.code ++ 0b101#3]) ∧
    (∀ p : RP, encode (.addHL p) = [0b00#2 ++ p.code ++ 0b1001#4] ∧ encode (.incRP p) = [0b00#2 ++ p.code ++ 0b0011#4] ∧
      encode (.decRP p) = [0b00#2 ++ p.code ++ 0b1011#4]) ∧
    (∀ (op : RotOp) (r : R8), encode (.rotR op r) = [0xCB, 0b00#2 ++ op.code ++ r.code] ∧
      encode (.rotHL op) = [0xCB, 0b00#2 ++ op.code ++ 0b110#3]) ∧
    (∀ (b : BitNo) (r : R8), encode (.bitR b r) = [0xCB, 0b01#2 ++ BitVec.ofNat 3 b.toNat ++ r.code] ∧
      encode (.resR b r) = [0xCB, 0b10#2 ++ BitVec.ofNat 3 b.toNat ++ r.code] ∧
      encode (.setR b r) = [0xCB, 0b11#2 ++ BitVec.ofNat 3 b.toNat ++ r.code]) ∧
    (∀ b : BitNo, encode (.bitHL b) = [0xCB, 0b01#2 ++ BitVec.ofNat 3 b.toNat ++ 0b110#3] ∧
      encode (.resHL b) = [0xCB, 0b10#2 ++ BitVec.ofNat 3 b.toNat ++ 0b110#3] ∧
      encode (.setHL b) = [0xCB, 0b11#2 ++ BitVec.ofNat 3 b.toNat ++ 0b110#3]) ∧
    (∀ (cc : Cond) (nn : Word), encode (.jpCond cc nn) = [0b110#3 ++ cc.code ++ 0b010#3, loByte nn, hiByte nn] ∧
      encode (.callCond cc nn) = [0b110#3 ++ cc.code ++ 0b100#3, loByte nn, hiByte nn]) ∧
    (∀ (cc : Cond) (e : Byte), encode (.jrCond cc e) = [0b001#3 ++ cc.code ++ 0b000#3, e] ∧
      encode (.retCond cc) = [0b110#3 ++ cc.code ++ 0b000#3]) ∧
    ∀ t : RstNo, encode (.rst t) = [0b11#2 ++ BitVec.ofNat 3 t.toNat ++ 0b111#3]

/-! ### The engine -/

/-- Where no interrupt is dispatched, the CPU is awake, and the bytes at pc are a well-formed instruction's, implemented and no
breakpoint, the step moves pc past all of them, executes the instruction and lets the agents and the PPU tick; a stopped run
is left as the effect leaves it (40_step.md R403, R404, R406, R420). -/
def Obligations.StepRunsTheDecodedInstruction : Prop :=
  ∀ (s : State) (i : Instr) (op : Opcode), i.wf = true → s.run = .running → NoDispatch s → s.halted = false →
    opcodeOf (encode i) = some op → op ∉ s.params.unimplemented → (∀ b, op = .base b → s.params.breakpoint ≠ some b) →
    CodeAt s (encode i) →
    step s =
      match exec i { s with pc := s.pc + BitVec.ofNat 16 (encode i).length } with
      | .next t =>
        match t.run with
        | .running => ticks (.instr op (branchTaken op s)) t
        | .stopped _ => .next t
      | .fault f => .fault f
      | .refused r => .refused r

/-- An unimplemented opcode, or the breakpoint opcode even if it is implemented, ends the run: pc is past the opcode bytes, no
immediate is read, nothing else changes and nothing ticks (40_step.md R405, R407). -/
def Obligations.StopLeavesOnlyPcAdvanced : Prop :=
  ∀ (s : State) (op : Opcode), s.run = .running → NoDispatch s → s.halted = false → op ≠ .base 0xCB → CodeAt s op.bytes →
    ((op ∈ s.params.unimplemented → (∀ b, op = .base b → s.params.breakpoint ≠ some b) →
        step s = .next { s with pc := s.pc + BitVec.ofNat 16 op.bytes.length, run := .stopped (.unimplemented op) }) ∧
      ∀ b, op = .base b → s.params.breakpoint = some b →
        step s = .next { s with pc := s.pc + 1, run := .stopped (.breakpoint b) })

/-- A halted CPU without a dispatch changes no state, and the agents and the PPU tick (40_step.md R402). -/
def Obligations.HaltedStepOnlyTicks : Prop :=
  ∀ s : State, s.run = .running → NoDispatch s → s.halted = true →
    cpuStep s = .next (s, .haltIdle) ∧ step s = ticks .haltIdle s

/-- Taking an interrupt: its pending bit and IME are cleared, pc is pushed, pc goes to 0x40 + 8k and the halted state ends,
for the lowest pending and enabled bit k (60_exceptions.md R1302, R1303). The push is `writeWord` at the new SP; no register,
flag or other address changes. -/
def Obligations.InterruptDispatch : Prop :=
  ∀ (s : State) (k : Nat), s.run = .running → s.ime = true → k ≤ 4 → (s.ifr &&& s.ie).getLsbD k = true →
    (∀ j, j < k → (s.ifr &&& s.ie).getLsbD j = false) → s.writable (s.sp - 2) = true → s.writable (s.sp - 1) = true →
    ∃ t, writeWord { s with ifr := s.ifr &&& ~~~((1 : Byte) <<< k), ime := false, sp := s.sp - 2 } (s.sp - 2) s.pc = .ok () t ∧
      SameButStorage { s with ifr := s.ifr &&& ~~~((1 : Byte) <<< k), ime := false, sp := s.sp - 2 } t ∧
      cpuStep s = .next ({ t with pc := BitVec.ofNat 16 (0x40 + 8 * k), halted := false }, .dispatch) ∧
      step s = ticks .dispatch { t with pc := BitVec.ofNat 16 (0x40 + 8 * k), halted := false } ∧
      (s.slots = resetSlots → ∀ other, s.wordTouches (s.sp - 2) other = false →
        t.peek other = { s with ifr := s.ifr &&& ~~~((1 : Byte) <<< k) }.peek other)

/-- A CPU step is a dispatch exactly when IME is set and a bit of 4..0 is pending and enabled, whether or not the CPU is halted
(60_exceptions.md R1301, 40_step.md R401); only a dispatch ends the halted state (10_state.md R112). -/
def Obligations.DispatchExactlyWhenPendingAndEnabled : Prop :=
  ∀ (s t : State) (k : StepKind), cpuStep s = .next (t, k) →
    (k = .dispatch ↔ s.ime = true ∧ s.ifr &&& s.ie &&& 0x1F ≠ 0) ∧ (s.halted = true → t.halted = false → k = .dispatch)

/-- The system step: the CPU step, then keypad, DMA and timer, then the PPU with the cycles of the step just taken; none of the
ticks when the CPU step stopped the run, which then takes no further step (40_step.md R420, 60_exceptions.md R1330). The model's
choices: the ticks use up one entry of the oracle's list and all the recorded writes (log entry 6), and a step of an ended run is
a refusal (log entry 9). -/
def Obligations.SystemStepOrder : Prop :=
  (∀ (s t u v : State) (k : StepKind), s.run = .running → cpuStep s = .next (t, k) → t.run = .running →
      dmaTick (nextAgentTicks t) (keypadTick (nextAgentTicks t) t) = .ok () u →
      v = { timerTick (nextAgentTicks t) u with agentTicks := t.agentTicks.drop 1, periphWrites := [] } →
      step s = .next (ppuTick (stepCycles v.params.stepCycles k) v)) ∧
    (∀ (s t : State) (k : StepKind) (r : StopReason), s.run = .running → cpuStep s = .next (t, k) → t.run = .stopped r →
      step s = .next t) ∧
    ∀ (s : State) (r : StopReason), s.run = .stopped r → step s = .refused .runEnded

/-- What the external agents can do in a system step: no CPU register, flag, SP, pc, IME, halted state, ROM bank, PPU state or
storage other than OAM changes, and IF only gains bits 2, 3 and 4 (60_exceptions.md R1320). The model's choice: the ticks use up
one entry of the oracle's list and all the recorded writes (log entry 6). -/
def Obligations.AgentsChangeOnlyOamAndTheirRequests : Prop :=
  ∀ s t : State, agentsTick s = .ok () t →
    t = { s with ram := t.ram, ifr := t.ifr, draws := t.draws, agentTicks := s.agentTicks.drop 1, periphWrites := [] } ∧
      (∀ key, key < 0xFE00 ∨ 0xFEA0 ≤ key → t.ram.read key = s.ram.read key) ∧
      t.ifr &&& 0xE3 = s.ifr &&& 0xE3 ∧ t.ifr ||| s.ifr = t.ifr

/-- The cycles of a system step: 1 for the reference; for the DMG the counts of 70_reset_and_hazards.md R1430 for dispatch,
halt, the CB opcodes, every base opcode with one count, and a conditional transfer taken or not. Its `taken` bit is its
condition, and an unconditional transfer reports taken (46_control.md R1000). -/
def Obligations.CyclesOfAStep : Prop :=
  (∀ k, stepCycles .reference k = 1) ∧ stepCycles .dmg .dispatch = 20 ∧ stepCycles .dmg .haltIdle = 4 ∧
    (∀ (sub : Byte) (taken : Bool), stepCycles .dmg (.instr (.cb sub) taken) =
      if sub.extractLsb' 0 3 = 6 then (if sub.extractLsb' 6 2 = 1 then 12 else 16) else 8) ∧
    (∀ (b : Byte) (taken : Bool), singleCount b ≠ 0 → stepCycles .dmg (.instr (.base b) taken) = singleCount b) ∧
    (∀ (s : State) (b : Byte),
      b ∈ [0xC3, 0xE9, 0x18, 0xCD, 0xC9, 0xD9, 0xC7, 0xCF, 0xD7, 0xDF, 0xE7, 0xEF, 0xF7, 0xFF] → branchTaken (.base b) s = true) ∧
    ∀ (cc : Cond) (s : State),
      (branchTaken (.base (0b001#3 ++ cc.code ++ 0b000#3)) s = true ↔ condHolds cc s) ∧
      (branchTaken (.base (0b110#3 ++ cc.code ++ 0b010#3)) s = true ↔ condHolds cc s) ∧
      (branchTaken (.base (0b110#3 ++ cc.code ++ 0b100#3)) s = true ↔ condHolds cc s) ∧
      (branchTaken (.base (0b110#3 ++ cc.code ++ 0b000#3)) s = true ↔ condHolds cc s) ∧
      (∀ taken, stepCycles .dmg (.instr (.base (0b001#3 ++ cc.code ++ 0b000#3)) taken) = if taken then 12 else 8) ∧
      (∀ taken, stepCycles .dmg (.instr (.base (0b110#3 ++ cc.code ++ 0b010#3)) taken) = if taken then 16 else 12) ∧
      (∀ taken, stepCycles .dmg (.instr (.base (0b110#3 ++ cc.code ++ 0b100#3)) taken) = if taken then 24 else 12) ∧
      ∀ taken, stepCycles .dmg (.instr (.base (0b110#3 ++ cc.code ++ 0b000#3)) taken) = if taken then 20 else 8

/-! ### Reset and whole-machine rules -/

/-- The reset values of 10_state.md R130 that the spec gives: each register by name, the slot table of R116, the run on. That
no write is recorded and no VBlank is reported yet is the model's reading (log entry 8). -/
def Obligations.ResetValues : Prop :=
  State.reset.a = 0x01 ∧ State.reset.f = 0xB0 ∧ State.reset.bc = 0x0013 ∧ State.reset.de = 0x00D8 ∧
    State.reset.hl = 0x014D ∧ State.reset.sp = 0xFFFE ∧ State.reset.pc = 0x0100 ∧ State.reset.ime = false ∧
    State.reset.ifr = 0 ∧ State.reset.ie = 0 ∧ State.reset.halted = false ∧ State.reset.romBank = 1 ∧
    State.reset.ppu.counter = 0 ∧ State.reset.ppu.mode = .oamSearch ∧ State.reset.ppu.line = 0 ∧
    State.reset.ppu.lcdc = 0x91 ∧ State.reset.ppu.scy = 0 ∧ State.reset.ppu.scx = 0 ∧ State.reset.ppu.lyc = 0 ∧
    State.reset.ppu.wy = 0 ∧ State.reset.ppu.wx = 0 ∧ State.reset.ppu.bgp = ⟨0, 1, 2, 3⟩ ∧
    State.reset.ppu.obp0 = ⟨1, 2, 3⟩ ∧ State.reset.ppu.obp1 = ⟨1, 2, 3⟩ ∧ State.reset.run = .running ∧
    State.reset.slots = resetSlots ∧ State.reset.periphWrites = [] ∧ State.reset.enteringVblank = false

/-- The state after reset meets the invariant. -/
def Obligations.ResetMeetsTheInvariant : Prop := State.reset.Inv

/-- Every step from a state that meets the invariant gives one that meets it: memories canonical and only where bytes exist,
the ROM bank 1..31, the line 0..153 with VBlank exactly from 144 on, the counter below its budget, one owner a slot. -/
def Obligations.StepKeepsTheInvariant : Prop := ∀ s t : State, s.Inv → step s = .next t → t.Inv

/-- No step changes the ROM image, the cartridge type, the slot table or the run's parameters (20_memory.md R202, 10_state.md
R115), and a run that goes on was on. -/
def Obligations.RomAndConfigurationNeverChange : Prop :=
  ∀ s t : State, step s = .next t →
    t.rom = s.rom ∧ t.romLen = s.romLen ∧ t.hasMBC1 = s.hasMBC1 ∧ t.slots = s.slots ∧ t.params = s.params ∧
      (t.run = .running → s.run = .running)

/-- With the construction's slot table and an image that covers all 32 banks, no step from a good state faults: the two faults
a step can raise are unreachable (20_memory.md R207, R209). -/
def Obligations.NoFaultWhenTheImageCoversEveryBank : Prop :=
  ∀ (s : State) (f : Fault), s.Inv → s.slots = resetSlots → 0x80000 ≤ s.romLen → step s ≠ .fault f

/-- Over all instructions: only EI, DI and RETI write IME, and only HALT writes the halted state (10_state.md R108, R112). -/
def Obligations.OnlyTheseWriteImeAndHalted : Prop :=
  ∀ (i : Instr) (s t : State), exec i s = .next t →
    (t.ime ≠ s.ime → i = .ei ∨ i = .di ∨ i = .reti) ∧ (t.halted ≠ s.halted → i = .halt)

/-- Over all instructions: those that 10_state.md R106 does not list leave all four flags alone. -/
def Obligations.OnlyListedInstructionsWriteFlags : Prop :=
  ∀ (i : Instr) (s t : State), ¬ WritesFlags i → exec i s = .next t →
    t.fZ = s.fZ ∧ t.fN = s.fN ∧ t.fH = s.fH ∧ t.fC = s.fC

/-! ### Registers -/

/-- F's bits and its write, and the register pairs: the first-named register is the high byte, and a pair written reads back
(AF but for F's low four bits) (10_state.md R101, R103). -/
def Obligations.FlagByteAndRegisterPairs : Prop :=
  ∀ (s : State) (v : Word),
    (s.f.getLsbD 7 = s.fZ ∧ s.f.getLsbD 6 = s.fN ∧ s.f.getLsbD 5 = s.fH ∧ s.f.getLsbD 4 = s.fC ∧ s.f &&& 0x0F = 0) ∧
      (s.rp .bc).toNat = s.b.toNat * 256 + s.c.toNat ∧ (s.rp .de).toNat = s.d.toNat * 256 + s.e.toNat ∧
      (s.rp .hl).toNat = s.h.toNat * 256 + s.l.toNat ∧ (s.rp2 .af).toNat = s.a.toNat * 256 + s.f.toNat ∧
      (∀ p, (s.setRP p v).rp p = v) ∧ (s.setRP2 .af v).rp2 .af = v &&& 0xFFF0 ∧
      (∀ p, p ≠ RP2.af → (s.setRP2 p v).rp2 p = v)

/-! ### Memory -/

/-- `readByte` by range (20_memory.md R201, R205, R206, R209, R220). The boundaries are those of R201. -/
def Obligations.ReadByteDecodesTheAddress : Prop :=
  ∀ (s : State) (addr : Word),
    (addr.toNat < 0x4000 → addr.toNat < s.romLen → readByte s addr = .ok (s.rom.read addr.toNat) s) ∧
      (addr.toNat < 0x4000 → s.romLen ≤ addr.toNat → readByte s addr = .fault (.romOutOfRange addr addr.toNat)) ∧
      (0x4000 ≤ addr.toNat → addr.toNat < 0x8000 → s.romBank * 0x4000 + (addr.toNat - 0x4000) < s.romLen →
        readByte s addr = .ok (s.rom.read (s.romBank * 0x4000 + (addr.toNat - 0x4000))) s) ∧
      (0x4000 ≤ addr.toNat → addr.toNat < 0x8000 → s.romLen ≤ s.romBank * 0x4000 + (addr.toNat - 0x4000) →
        readByte s addr = .fault (.romOutOfRange addr (s.romBank * 0x4000 + (addr.toNat - 0x4000)))) ∧
      (0x8000 ≤ addr.toNat → addr.toNat < 0xE000 → readByte s addr = .ok (s.ram.read addr.toNat) s) ∧
      (0xE000 ≤ addr.toNat → addr.toNat < 0xFE00 → readByte s addr = readByte s (addr - 0x2000)) ∧
      (0xFE00 ≤ addr.toNat → addr.toNat < 0xFEA0 → readByte s addr = .ok (s.ram.read addr.toNat) s) ∧
      (0xFEA0 ≤ addr.toNat → addr.toNat < 0xFF00 → readByte s addr = .ok 0x00 s) ∧
      (0xFF00 ≤ addr.toNat → addr.toNat < 0xFF80 → readByte s addr = slotRead s (.io (addr.toNat - 0xFF00))) ∧
      (0xFF80 ≤ addr.toNat → addr.toNat < 0xFFFF → readByte s addr = .ok (s.ram.read addr.toNat) s) ∧
      (addr.toNat = 0xFFFF → readByte s addr = slotRead s .ie)

/-- `writeByte` by range; a write never changes ROM (20_memory.md R202, R205, R206, R210, R211). -/
def Obligations.WriteByteDecodesTheAddress : Prop :=
  ∀ (s : State) (addr : Word) (v : Byte),
    (addr.toNat < 0x2000 → writeByte s addr v = .ok () s) ∧
      (0x2000 ≤ addr.toNat → addr.toNat < 0x4000 → writeByte s addr v =
        .ok () (if s.hasMBC1 = true then { s with romBank := max 1 (v &&& 0x1F).toNat } else s)) ∧
      (0x4000 ≤ addr.toNat → addr.toNat < 0x8000 → writeByte s addr v = .ok () s) ∧
      (0x8000 ≤ addr.toNat → addr.toNat < 0xE000 →
        writeByte s addr v = .ok () { s with ram := s.ram.write addr.toNat v }) ∧
      (0xE000 ≤ addr.toNat → addr.toNat < 0xFE00 → writeByte s addr v = writeByte s (addr - 0x2000) v) ∧
      (0xFE00 ≤ addr.toNat → addr.toNat < 0xFEA0 →
        writeByte s addr v = .ok () { s with ram := s.ram.write addr.toNat v }) ∧
      (0xFEA0 ≤ addr.toNat → addr.toNat < 0xFF00 → writeByte s addr v = .ok () s) ∧
      (0xFF00 ≤ addr.toNat → addr.toNat < 0xFF80 → writeByte s addr v = slotWrite s (.io (addr.toNat - 0xFF00)) v) ∧
      (0xFF80 ≤ addr.toNat → addr.toNat < 0xFFFF →
        writeByte s addr v = .ok () { s with ram := s.ram.write addr.toNat v }) ∧
      (addr.toNat = 0xFFFF → writeByte s addr v = slotWrite s .ie v) ∧
      ∀ t, writeByte s addr v = .ok () t → t.rom = s.rom ∧ t.romLen = s.romLen

/-- The multiplexer: a registered callback runs; without one a read gives 0xFF and a write does nothing; an empty IE slot
faults (20_memory.md R203, R207). -/
def Obligations.SlotMultiplexer : Prop :=
  ∀ (s : State) (slot : Slot) (v : Byte),
    (∀ e h, lookupSlot s.slots slot = some e → e.read = some h → slotRead s slot = handlerRead h slot s) ∧
      (∀ e h, lookupSlot s.slots slot = some e → e.write = some h → slotWrite s slot v = .ok () (handlerWrite h slot v s)) ∧
      (∀ e, lookupSlot s.slots slot = some e → e.read = none → slotRead s slot = .ok 0xFF s) ∧
      (∀ e, lookupSlot s.slots slot = some e → e.write = none → slotWrite s slot v = .ok () s) ∧
      (lookupSlot s.slots slot = none → slot ≠ .ie → slotRead s slot = .ok 0xFF s ∧ slotWrite s slot v = .ok () s) ∧
      (lookupSlot s.slots .ie = none →
        slotRead s .ie = .fault .ieSlotUnregistered ∧ slotWrite s .ie v = .fault .ieSlotUnregistered)

/-- The construction of the slot table: the registrations of 70_reset_and_hazards.md R1402 give the table of 10_state.md R116,
and a second claim of a slot faults (20_memory.md R208). -/
def Obligations.SlotTableConstruction : Prop :=
  constructSlots Config.peripheralSlots = .ok resetSlots ∧
    (∀ (slots : List SlotEntry) (e new : SlotEntry), e ∈ slots → e.slot = new.slot →
      registerIoHandler slots new = .error (.doubleRegistration new.slot)) ∧
    ∀ (slots : List SlotEntry) (new : SlotEntry), (∀ e ∈ slots, e.slot ≠ new.slot) →
      registerIoHandler slots new = .ok (slots ++ [new])

/-- What the CPU's and the PPU's registers read as and what a write of them does (10_state.md R110, R111, R120, R122..R127). -/
def Obligations.CpuAndPpuRegistersReadAndWrite : Prop :=
  ∀ (s : State) (v : Byte), s.slots = resetSlots →
    (readByte s 0xFF0F = .ok s.ifr s ∧ writeByte s 0xFF0F v = .ok () { s with ifr := v }) ∧
      (readByte s 0xFFFF = .ok s.ie s ∧ writeByte s 0xFFFF v = .ok () { s with ie := v }) ∧
      (readByte s 0xFF40 = .ok s.ppu.lcdc s ∧ writeByte s 0xFF40 v = .ok () { s with ppu := { s.ppu with lcdc := v } }) ∧
      (readByte s 0xFF42 = .ok s.ppu.scy s ∧ writeByte s 0xFF42 v = .ok () { s with ppu := { s.ppu with scy := v } }) ∧
      (readByte s 0xFF43 = .ok s.ppu.scx s ∧ writeByte s 0xFF43 v = .ok () { s with ppu := { s.ppu with scx := v } }) ∧
      (readByte s 0xFF44 = .ok (BitVec.ofNat 8 s.ppu.line) s ∧
        writeByte s 0xFF44 v = .ok () { s with ppu := { s.ppu with line := 0, counter := 0, mode := .oamSearch } }) ∧
      (readByte s 0xFF45 = .ok s.ppu.lyc s ∧ writeByte s 0xFF45 v = .ok () { s with ppu := { s.ppu with lyc := v } }) ∧
      (readByte s 0xFF47 = .ok (s.ppu.bgp.c3 ++ s.ppu.bgp.c2 ++ s.ppu.bgp.c1 ++ s.ppu.bgp.c0) s ∧
        writeByte s 0xFF47 v = .ok () { s with ppu := { s.ppu with
          bgp := ⟨v.extractLsb' 0 2, v.extractLsb' 2 2, v.extractLsb' 4 2, v.extractLsb' 6 2⟩ } }) ∧
      (readByte s 0xFF48 = .ok (s.ppu.obp0.c3 ++ s.ppu.obp0.c2 ++ s.ppu.obp0.c1 ++ 0b00#2) s ∧
        writeByte s 0xFF48 v = .ok () { s with ppu := { s.ppu with
          obp0 := ⟨v.extractLsb' 2 2, v.extractLsb' 4 2, v.extractLsb' 6 2⟩ } }) ∧
      (readByte s 0xFF49 = .ok (s.ppu.obp1.c3 ++ s.ppu.obp1.c2 ++ s.ppu.obp1.c1 ++ 0b00#2) s ∧
        writeByte s 0xFF49 v = .ok () { s with ppu := { s.ppu with
          obp1 := ⟨v.extractLsb' 2 2, v.extractLsb' 4 2, v.extractLsb' 6 2⟩ } }) ∧
      (readByte s 0xFF4A = .ok s.ppu.wy s ∧ writeByte s 0xFF4A v = .ok () { s with ppu := { s.ppu with wy := v } }) ∧
      (readByte s 0xFF4B = .ok s.ppu.wx s ∧ writeByte s 0xFF4B v = .ok () { s with ppu := { s.ppu with wx := v } }) ∧
      (s.ppu.lcdc = BitVec.ofBool s.ppu.lcdEnable ++ BitVec.ofBool s.ppu.winMapSelect ++ BitVec.ofBool s.ppu.winEnable ++
        BitVec.ofBool s.ppu.tileDataSelect ++ BitVec.ofBool s.ppu.bgMapSelect ++ BitVec.ofBool s.ppu.objSize ++
        BitVec.ofBool s.ppu.objEnable ++ BitVec.ofBool s.ppu.bgEnable)

/-- STAT and the peripherals' slots: a read gives a fresh free value and changes nothing else; a write of STAT does nothing; a
write of a peripheral's slot is recorded and changes nothing else (10_state.md R121, 20_memory.md R213). The model's choices: a
free value is an opaque constant of the draw counter (log entry 5), the record a list that the ticks use up (log entry 6). -/
def Obligations.StatAndPeripheralSlots : Prop :=
  ∀ (s : State) (n : Nat) (v : Byte), s.slots = resetSlots → n ∈ [0x00, 0x01, 0x02, 0x04, 0x05, 0x06, 0x07, 0x46] →
    readByte s 0xFF41 = .ok (Config.statRead s.draws) { s with draws := s.draws + 1 } ∧ writeByte s 0xFF41 v = .ok () s ∧
      readByte s (BitVec.ofNat 16 (0xFF00 + n)) = .ok (Config.periphRead s.draws n) { s with draws := s.draws + 1 } ∧
      writeByte s (BitVec.ofNat 16 (0xFF00 + n)) v = .ok () { s with periphWrites := s.periphWrites ++ [(n, v)] }

/-- A word access is two byte accesses, the low byte at `addr` first, the high byte at `addr + 1` mod 2^16 in the state the
first left (20_memory.md R204). -/
def Obligations.WordAccessIsTwoByteAccesses : Prop :=
  (∀ (s s1 s2 : State) (addr : Word) (lo hi : Byte), readByte s addr = .ok lo s1 → readByte s1 (addr + 1) = .ok hi s2 →
      readWord s addr = .ok (hi ++ lo) s2) ∧
    (∀ (s t : State) (addr v : Word), readWord s addr = .ok v t →
      ∃ s1, readByte s addr = .ok (v.extractLsb' 0 8) s1 ∧ readByte s1 (addr + 1) = .ok (v.extractLsb' 8 8) t) ∧
    ∀ (s t : State) (addr v : Word), writeWord s addr v = .ok () t ↔
      ∃ s1, writeByte s addr (v.extractLsb' 0 8) = .ok () s1 ∧ writeByte s1 (addr + 1) (v.extractLsb' 8 8) = .ok () t

/-- RAM reads back what was written, and working RAM and its echo are one storage (20_memory.md R205, R218). -/
def Obligations.ReadAfterWriteAndEcho : Prop :=
  ∀ (s : State) (addr : Word) (v : Byte),
    isStorage (homeAddr addr) = true →
    ∃ t, writeByte s addr v = .ok () t ∧ t.peek addr = some v ∧
      (0xC000 ≤ addr.toNat → addr.toNat < 0xDE00 → t.peek (addr + 0x2000) = some v) ∧
      (0xE000 ≤ addr.toNat → addr.toNat < 0xFE00 → t.peek (addr - 0x2000) = some v)

/-- The frame of a byte write: every address that does not name the byte written (or, for a bank select, lies outside the
banked window) reads as before; only a bank select changes the bank, only a write of LY the scanline state. -/
def Obligations.WriteByteFrame : Prop :=
  ∀ (s t : State) (addr : Word) (v : Byte), s.slots = resetSlots → writeByte s addr v = .ok () t →
    SameButStorage s t ∧ (∀ other, s.touches addr other = false → t.peek other = s.peek other) ∧
      (t.romBank ≠ s.romBank → s.hasMBC1 = true ∧ 0x2000 ≤ addr.toNat ∧ addr.toNat < 0x4000) ∧
      (addr ≠ 0xFF44 → t.ppu.line = s.ppu.line ∧ t.ppu.counter = s.ppu.counter ∧ t.ppu.mode = s.ppu.mode) ∧
      (t.periphWrites ≠ s.periphWrites → 0xFF00 ≤ addr.toNat ∧ addr.toNat - 0xFF00 ∈ Config.peripheralSlots)

/-- MBC1: after a write of `v` to 0x2000..0x3FFF, reads of 0x4000..0x7FFF come from ROM offset max(1, v & 0x1F) · 0x4000 on, in
the very next access (20_memory.md R210). -/
def Obligations.BankSelectMovesTheWindow : Prop :=
  ∀ (s : State) (sel addr : Word) (v : Byte), s.hasMBC1 = true → 0x2000 ≤ sel.toNat → sel.toNat < 0x4000 →
    0x4000 ≤ addr.toNat → addr.toNat < 0x8000 → max 1 (v.toNat % 32) * 0x4000 + (addr.toNat - 0x4000) < s.romLen →
    ∃ t, writeByte s sel v = .ok () t ∧
      t.peek addr = some (s.rom.read (max 1 (v.toNat % 32) * 0x4000 + (addr.toNat - 0x4000)))

/-! ### Loads and the stack -/

/-- LD d,s; LD d,n8; LD rr,n16; LD SP,HL: the register written, and nothing else (41_load8.md R501, R502, 42_load16.md R601,
R603). -/
def Obligations.RegisterLoads : Prop :=
  ∀ s : State,
    (∀ dst src : R8, ∃ t, exec (.ldR dst src) s = .next t ∧ t.r8 dst = s.r8 src ∧ t = s.setR8 dst (t.r8 dst)) ∧
      (∀ (dst : R8) (n : Byte), ∃ t, exec (.ldN dst n) s = .next t ∧ t.r8 dst = n ∧ t = s.setR8 dst (t.r8 dst)) ∧
      (∀ v, exec (.ldRP .bc v) s = .next { s with b := v.extractLsb' 8 8, c := v.extractLsb' 0 8 }) ∧
      (∀ v, exec (.ldRP .de v) s = .next { s with d := v.extractLsb' 8 8, e := v.extractLsb' 0 8 }) ∧
      (∀ v, exec (.ldRP .hl v) s = .next { s with h := v.extractLsb' 8 8, l := v.extractLsb' 0 8 }) ∧
      (∀ v, exec (.ldRP .sp v) s = .next { s with sp := v }) ∧ exec .ldSPHL s = .next { s with sp := s.h ++ s.l }

/-- The byte loads complete where the address is readable: the register gets the byte read, a read changes only the draw
counter, and every address whose read draws no free value reads as before (41_load8.md R503, R506, R507, R510, R512, R514). -/
def Obligations.ByteLoads : Prop :=
  ∀ (s : State) (i : Instr) (r : R8) (addr : Word), LoadsByte s i r addr → s.readable addr = true →
    ∃ v t, readByte s addr = .ok v t ∧ SameButDraws s t ∧ exec i s = .next (t.setR8 r v) ∧
      ∀ other, s.drawsAt other = false → (t.setR8 r v).peek other = s.peek other

/-- The byte stores complete where the address is writable: the byte is written there, no register, flag, SP, pc or mode
changes, and every address that does not name the byte reads as before (41_load8.md R504, R505, R508, R509, R511, R513, R515). -/
def Obligations.ByteStores : Prop :=
  ∀ (s : State) (i : Instr) (addr : Word) (v : Byte), StoresByte s i addr v → s.writable addr = true →
    ∃ t, writeByte s addr v = .ok () t ∧ exec i s = .next t ∧ SameButStorage s t ∧
      (s.slots = resetSlots → ∀ other, s.touches addr other = false → t.peek other = s.peek other)

/-- LD (HL+),A, LD (HL-),A, LD A,(HL+), LD A,(HL-): the access at HL, then HL moves by one mod 2^16 (41_load8.md R516..R519). -/
def Obligations.HLStepLoadsAndStores : Prop :=
  ∀ (s : State) (hl' : Word),
    (s.writable s.hl = true → ∃ t, writeByte s s.hl s.a = .ok () t ∧ SameButStorage s t ∧
      (hl' = s.hl + 1 → exec .ldIndHLIncA s = .next { t with h := hl'.extractLsb' 8 8, l := hl'.extractLsb' 0 8 }) ∧
      (hl' = s.hl - 1 → exec .ldIndHLDecA s = .next { t with h := hl'.extractLsb' 8 8, l := hl'.extractLsb' 0 8 }) ∧
      (s.slots = resetSlots → ∀ other, s.touches s.hl other = false → t.peek other = s.peek other)) ∧
      (s.readable s.hl = true → ∃ v t, readByte s s.hl = .ok v t ∧ SameButDraws s t ∧
        (hl' = s.hl + 1 → exec .ldAIndHLInc s = .next { t with a := v, h := hl'.extractLsb' 8 8, l := hl'.extractLsb' 0 8 }) ∧
        (hl' = s.hl - 1 → exec .ldAIndHLDec s = .next { t with a := v, h := hl'.extractLsb' 8 8, l := hl'.extractLsb' 0 8 }))

/-- LD HL,SP+e8 and ADD SP,e8: SP plus the sign-extended byte mod 2^16; Z = N = 0, H and C from the unsigned low nibble and low
byte of the old SP and e (42_load16.md R604, 44_alu16.md R804, 00_scope.md R14). -/
def Obligations.StackPointerPlusSignedByte : Prop :=
  ∀ (s : State) (e : Byte) (sum : Word) (half carry : Bool),
    sum = s.sp + (if e.toNat < 0x80 then BitVec.ofNat 16 e.toNat else BitVec.ofNat 16 (e.toNat + 0xFF00)) →
    half = decide ((s.sp &&& 0xF).toNat + (e &&& 0xF).toNat > 0xF) → carry = decide ((s.sp &&& 0xFF).toNat + e.toNat > 0xFF) →
    encode (.addSPE8 e) = [0xE8, e] ∧ encode (.ldHLSPE8 e) = [0xF8, e] ∧
      exec (.addSPE8 e) s = .next { s with sp := sum, fZ := false, fN := false, fH := half, fC := carry } ∧
      exec (.ldHLSPE8 e) s = .next { s with h := sum.extractLsb' 8 8, l := sum.extractLsb' 0 8,
                                            fZ := false, fN := false, fH := half, fC := carry }

/-- LD (n16),SP: SP is written as a word at n16, nothing else changes (42_load16.md R602). -/
def Obligations.StackPointerStore : Prop :=
  ∀ (s : State) (nn : Word), s.writable nn = true → s.writable (nn + 1) = true →
    ∃ t, writeWord s nn s.sp = .ok () t ∧ exec (.ldIndN16SP nn) s = .next t ∧ SameButStorage s t ∧
      (s.slots = resetSlots → ∀ other, s.wordTouches nn other = false → t.peek other = s.peek other)

/-- PUSH, CALL, a taken CALL cc and RST: SP goes down by 2, the word is written at the new SP (a call pushes the address after
the instruction), pc goes to the target; nothing else changes (42_load16.md R605, R608, 46_control.md R1006, R1007, R1010). -/
def Obligations.PushesAndCalls : Prop :=
  ∀ (s : State) (i : Instr) (v next : Word), Pushes s i v next → s.writable (s.sp - 2) = true → s.writable (s.sp - 1) = true →
    ∃ t, writeWord { s with sp := s.sp - 2 } (s.sp - 2) v = .ok () t ∧ SameButStorage { s with sp := s.sp - 2 } t ∧
      exec i s = .next { t with pc := next } ∧
      (s.slots = resetSlots → ∀ other, s.wordTouches (s.sp - 2) other = false → t.peek other = s.peek other)

/-- POP: the pair gets the word at SP, then SP goes up by 2; POP AF drops bits 3..0 of F (42_load16.md R606, R607). -/
def Obligations.Pops : Prop :=
  ∀ s : State, s.readable s.sp = true → s.readable (s.sp + 1) = true →
    ∃ (v : Word) (t : State), readWord s s.sp = .ok v t ∧ SameButDraws s t ∧
      exec (.pop .bc) s = .next { t with sp := s.sp + 2, b := v.extractLsb' 8 8, c := v.extractLsb' 0 8 } ∧
      exec (.pop .de) s = .next { t with sp := s.sp + 2, d := v.extractLsb' 8 8, e := v.extractLsb' 0 8 } ∧
      exec (.pop .hl) s = .next { t with sp := s.sp + 2, h := v.extractLsb' 8 8, l := v.extractLsb' 0 8 } ∧
      exec (.pop .af) s = .next { t with sp := s.sp + 2, a := v.extractLsb' 8 8, fZ := v.getLsbD 7, fN := v.getLsbD 6,
                                         fH := v.getLsbD 5, fC := v.getLsbD 4 } ∧
      ∀ other, s.drawsAt other = false → t.peek other = s.peek other

/-- RET, RETI and a taken RET cc: pc gets the word at SP, SP goes up by 2, RETI sets IME; a RET cc not taken changes nothing
(46_control.md R1008, R1009, R1011). -/
def Obligations.Returns : Prop :=
  (∀ s : State, s.readable s.sp = true → s.readable (s.sp + 1) = true →
      ∃ (v : Word) (t : State), readWord s s.sp = .ok v t ∧ SameButDraws s t ∧
        exec .ret s = .next { t with sp := s.sp + 2, pc := v } ∧
        exec .reti s = .next { t with sp := s.sp + 2, pc := v, ime := true } ∧
        ∀ cc, condHolds cc s → exec (.retCond cc) s = .next { t with sp := s.sp + 2, pc := v }) ∧
    ∀ (s : State) (cc : Cond), ¬ condHolds cc s → exec (.retCond cc) s = .next s

/-! ### Arithmetic and logic -/

/-- ADD and ADC of a register or an immediate (43_alu8.md R701, R703, R705, R706, R708). -/
def Obligations.AddAndAddWithCarry : Prop :=
  ∀ (s : State) (i : Instr) (op : AluOp) (x : Byte) (cin sum : Nat), AluOperand s i op x →
    (op = .add ∧ cin = 0 ∨ op = .adc ∧ cin = s.fC.toNat) → sum = s.a.toNat + x.toNat + cin →
    exec i s = .next { s with
      a := BitVec.ofNat 8 sum
      fZ := decide (sum % 256 = 0)
      fN := false
      fH := decide ((s.a &&& 0xF).toNat + (x &&& 0xF).toNat + cin > 0xF)
      fC := decide (sum > 0xFF) }

/-- SUB, SBC and CP of a register or an immediate; CP does not write A (43_alu8.md R702, R709, R711, R712, R714, R724, R726). -/
def Obligations.SubtractAndCompare : Prop :=
  ∀ (s : State) (i : Instr) (op : AluOp) (x : Byte) (cin : Nat) (diff : Int), AluOperand s i op x →
    (op = .sub ∧ cin = 0 ∨ op = .sbc ∧ cin = s.fC.toNat ∨ op = .cp ∧ cin = 0) →
    diff = (s.a.toNat : Int) - x.toNat - cin →
    exec i s = .next { s with
      a := if op = .cp then s.a else BitVec.ofInt 8 diff
      fZ := decide (diff % 256 = 0)
      fN := true
      fH := decide ((s.a &&& 0xF).toNat < (x &&& 0xF).toNat + cin)
      fC := decide (s.a.toNat < x.toNat + cin) }

/-- AND, XOR and OR of a register or an immediate (43_alu8.md R715, R717, R718, R720, R721, R723). -/
def Obligations.LogicalOperations : Prop :=
  ∀ (s : State) (i : Instr) (op : AluOp) (x v : Byte), AluOperand s i op x →
    (op = .and ∧ v = s.a &&& x ∨ op = .xor ∧ v = s.a ^^^ x ∨ op = .or ∧ v = s.a ||| x) →
    exec i s = .next { s with a := v, fZ := decide (v = 0), fN := false, fH := decide (op = .and), fC := false }

/-- The (HL) form of every ALU operation completes where HL is readable, and does to A and the flags what the immediate form
does with the byte read, which changes only the draw counter (43_alu8.md R700 and the (HL) rules). -/
def Obligations.AluWithMemoryOperand : Prop :=
  ∀ (s : State) (op : AluOp), s.readable s.hl = true →
    ∃ x t u, readByte s s.hl = .ok x t ∧ SameButDraws s t ∧ exec (.aluN op x) t = .next u ∧ exec (.aluHL op) s = .next u ∧
      SameButDraws { s with a := u.a, fZ := u.fZ, fN := u.fN, fH := u.fH, fC := u.fC } u

/-- INC r and DEC r: Z and H of the result, N = 1 for both, C unchanged (43_alu8.md R727, R729). -/
def Obligations.IncrementAndDecrementRegister : Prop :=
  ∀ (s : State) (r : R8),
    exec (.incR r) s = .next { s.setR8 r (s.r8 r + 1) with
      fZ := decide ((s.r8 r).toNat = 0xFF), fN := true, fH := decide (s.r8 r &&& 0xF = 0xF) } ∧
    exec (.decR r) s = .next { s.setR8 r (s.r8 r - 1) with
      fZ := decide ((s.r8 r).toNat = 1), fN := true, fH := decide (s.r8 r &&& 0xF = 0x0) }

/-- INC, DEC, the CB rotates and shifts, RES and SET of (HL): one read, then one write of the same address, then the flags
(none for RES and SET); no other register and no other address changes (43_alu8.md R728, R730, 45_rotate_shift_bit.md R900). -/
def Obligations.ReadModifyWriteAtHL : Prop :=
  ∀ (s : State) (i : Instr) (f : Byte → Byte) (g : Byte → State → State), ModifiesHL s i f g →
    s.readable s.hl = true → s.writable s.hl = true →
    ∃ v t u, readByte s s.hl = .ok v t ∧ SameButDraws s t ∧ writeByte t s.hl (f v) = .ok () u ∧ SameButStorage t u ∧
      exec i s = .next (g v u) ∧
      (s.slots = resetSlots → ∀ other, s.touches s.hl other = false → s.drawsAt other = false →
        (g v u).peek other = s.peek other)

/-- DAA, CPL, SCF and CCF (43_alu8.md R731..R734). -/
def Obligations.DaaAndFlagOperations : Prop :=
  ∀ (s : State) (a1 a2 : Nat) (c2 : Bool),
    a1 = (if (s.a &&& 0xF).toNat > 9 ∨ s.fH = true then (s.a.toNat + 0x06) % 256 else s.a.toNat) →
    c2 = (decide (a1 / 16 > 9) || s.fC) → a2 = (if c2 = true then (a1 + 0x60) % 256 else a1) →
    encode .daa = [0x27] ∧ encode .cpl = [0x2F] ∧ encode .scf = [0x37] ∧ encode .ccf = [0x3F] ∧
      exec .daa s = .next { s with a := BitVec.ofNat 8 a2, fZ := decide (a2 = 0), fH := false, fC := c2 } ∧
      exec .cpl s = .next { s with a := ~~~s.a, fN := true, fH := true } ∧
      exec .scf s = .next { s with fN := false, fH := false, fC := true } ∧
      exec .ccf s = .next { s with fN := false, fH := false, fC := !s.fC }

/-- ADD HL,rr (N = 0, H from bit 11, C from bit 15, Z unchanged), INC rr and DEC rr (no flag) (44_alu16.md R801..R803). -/
def Obligations.SixteenBitArithmetic : Prop :=
  ∀ (s : State) (p : RP) (sum : Nat) (w : Word), sum = s.hl.toNat + (s.rp p).toNat → w = BitVec.ofNat 16 sum →
    encode (.addHL p) = [0b00#2 ++ p.code ++ 0b1001#4] ∧ encode (.incRP p) = [0b00#2 ++ p.code ++ 0b0011#4] ∧
    encode (.decRP p) = [0b00#2 ++ p.code ++ 0b1011#4] ∧
    exec (.addHL p) s = .next { s with
      h := w.extractLsb' 8 8
      l := w.extractLsb' 0 8
      fN := false
      fH := decide ((s.hl &&& 0x0FFF).toNat + (s.rp p &&& 0x0FFF).toNat > 0x0FFF)
      fC := decide (sum > 0xFFFF) } ∧
    (∃ t, exec (.incRP p) s = .next t ∧ t.rp p = s.rp p + 1 ∧ t = s.setRP p (t.rp p)) ∧
    ∃ t, exec (.decRP p) s = .next t ∧ t.rp p = s.rp p - 1 ∧ t = s.setRP p (t.rp p)

/-! ### Rotates, shifts and bits -/

/-- RLCA, RRCA, RLA, RRA: A rotated, Z forced to 0, N = H = 0, C the bit shifted out (45_rotate_shift_bit.md R901..R904). -/
def Obligations.AccumulatorRotates : Prop :=
  ∀ s : State,
    encode .rlca = [0x07] ∧ encode .rrca = [0x0F] ∧ encode .rla = [0x17] ∧ encode .rra = [0x1F] ∧
    exec .rlca s = .next { s with a := s.a.rotateLeft 1, fZ := false, fN := false, fH := false, fC := s.a.getLsbD 7 } ∧
    exec .rrca s = .next { s with a := s.a.rotateRight 1, fZ := false, fN := false, fH := false, fC := s.a.getLsbD 0 } ∧
    exec .rla s = .next { s with a := rotated .rl s.a s.fC, fZ := false, fN := false, fH := false, fC := s.a.getLsbD 7 } ∧
    exec .rra s = .next { s with a := rotated .rr s.a s.fC, fZ := false, fN := false, fH := false, fC := s.a.getLsbD 0 }

/-- The CB rotates and shifts of a register: the bits moved as the spec says, Z of the result, N = H = 0, C the bit shifted out,
0 for SWAP (45_rotate_shift_bit.md R905, R907, R909, R911, R913, R915, R917, R919). -/
def Obligations.RegisterRotatesAndShifts : Prop :=
  ∀ (s : State) (op : RotOp) (r : R8),
    exec (.rotR op r) s = .next { s.setR8 r (rotated op (s.r8 r) s.fC) with
      fZ := decide (rotated op (s.r8 r) s.fC = 0), fN := false, fH := false, fC := shiftedOut op (s.r8 r) }

/-- BIT of a register and of (HL): Z = not the bit, N = 0, H = 1, C unchanged, no write; RES and SET of a register: that bit
only, no flag (45_rotate_shift_bit.md R921, R922, R923, R925). -/
def Obligations.BitResSet : Prop :=
  ∀ (s : State) (b : BitNo),
    (∀ r, exec (.bitR b r) s = .next { s with fZ := !(s.r8 r).getLsbD b.toNat, fN := false, fH := true }) ∧
      (s.readable s.hl = true → ∃ v t, readByte s s.hl = .ok v t ∧ SameButDraws s t ∧
        exec (.bitHL b) s = .next { t with fZ := !v.getLsbD b.toNat, fN := false, fH := true }) ∧
      (∀ r, ∃ t, exec (.resR b r) s = .next t ∧ t = s.setR8 r (t.r8 r) ∧
        ∀ j, j < 8 → (t.r8 r).getLsbD j = ((s.r8 r).getLsbD j && decide (j ≠ b.toNat))) ∧
      ∀ r, ∃ t, exec (.setR b r) s = .next t ∧ t = s.setR8 r (t.r8 r) ∧
        ∀ j, j < 8 → (t.r8 r).getLsbD j = ((s.r8 r).getLsbD j || decide (j = b.toNat))

/-! ### Control and system -/

/-- JP, JP HL, JR and their conditional forms, taken or not, and CALL cc not taken; `s.pc` is the post-fetch pc
(46_control.md R1001..R1005, R1007). -/
def Obligations.JumpsAndUntakenCalls : Prop :=
  ∀ (s : State) (nn : Word) (e : Byte) (cc : Cond) (target : Word),
    target = s.pc + (if e.toNat < 0x80 then BitVec.ofNat 16 e.toNat else BitVec.ofNat 16 (e.toNat + 0xFF00)) →
    exec (.jpN16 nn) s = .next { s with pc := nn } ∧ exec .jpHL s = .next { s with pc := s.h ++ s.l } ∧
      exec (.jrE8 e) s = .next { s with pc := target } ∧
      (condHolds cc s → exec (.jpCond cc nn) s = .next { s with pc := nn } ∧
        exec (.jrCond cc e) s = .next { s with pc := target }) ∧
      (¬ condHolds cc s → exec (.jpCond cc nn) s = .next s ∧ exec (.jrCond cc e) s = .next s ∧
        exec (.callCond cc nn) s = .next s)

/-- NOP does nothing; HALT halts; DI and EI write IME at once (47_system.md R1100, R1101, R1103, R1104). -/
def Obligations.NopHaltDiEi : Prop :=
  ∀ s : State, encode .nop = [0x00] ∧ encode .halt = [0x76] ∧ encode .di = [0xF3] ∧ encode .ei = [0xFB] ∧
    exec .nop s = .next s ∧ exec .halt s = .next { s with halted := true } ∧
    exec .di s = .next { s with ime := false } ∧ exec .ei s = .next { s with ime := true }

/-- STOP and each unassigned opcode end the run where `Implemented` is false for them, as by default it is: nothing else
changes (47_system.md R1102, R1106). Where it is true the spec gives no effect, and the model refuses (log entry 9). -/
def Obligations.StopAndUnassignedEndTheRun : Prop :=
  ∀ (s : State) (b : Byte) (i : Instr), ((∃ n, b = 0x10 ∧ i = .stop n) ∨ (b, i) ∈ Instr.unassigned) →
    (.base b ∈ s.params.unimplemented → exec i s = .next { s with run := .stopped (.unimplemented (.base b)) }) ∧
      (.base b ∉ s.params.unimplemented → exec i s = .refused (.effectNotGiven (.base b))) ∧
      .base b ∈ Params.default.unimplemented

/-- PREFIX CB with a sub-opcode is the CB instruction that the bytes 0xCB, sub decode to, and it completes where HL can be read
and written (47_system.md R1105). -/
def Obligations.PrefixRunsTheCbInstruction : Prop :=
  ∀ (s : State) (sub : Byte) (i : Instr), decode [0xCB, sub] = .ok (i, []) → s.readable s.hl = true → s.writable s.hl = true →
    ∃ t, exec (.prefixCb sub) s = .next t ∧ exec i s = .next t

/-! ### The PPU -/

/-- The four transitions: OAM search to drawing; drawing renders the line and goes to HBlank; HBlank goes to the next line, or
at 144 to VBlank with IF bit 0 set and the report; a VBlank line to the next, or from 153 to line 0 (48_ppu.md R1210..R1214). -/
def Obligations.PpuTransitions : Prop :=
  ∀ (s : State) (p : Ppu), p = { s.ppu with counter := s.ppu.counter - budget s.params s.ppu.mode } →
    (s.ppu.mode = .oamSearch → ppuTransition s = { s with ppu := { p with mode := .drawing } }) ∧
      (s.ppu.mode = .drawing →
        ppuTransition s = { renderLine { s with ppu := p } s.ppu.line with ppu := { p with mode := .hBlank } }) ∧
      (s.ppu.mode = .hBlank → s.ppu.line ≠ 143 →
        ppuTransition s = { s with ppu := { p with line := s.ppu.line + 1, mode := .oamSearch } }) ∧
      (s.ppu.mode = .hBlank → s.ppu.line = 143 →
        ppuTransition s = { s with ppu := { p with line := 144, mode := .vBlank },
                                   ifr := s.ifr ||| 1, enteringVblank := true }) ∧
      (s.ppu.mode = .vBlank → s.ppu.line ≠ 153 → ppuTransition s = { s with ppu := { p with line := s.ppu.line + 1 } }) ∧
      (s.ppu.mode = .vBlank → s.ppu.line = 153 →
        ppuTransition s = { s with ppu := { p with line := 0, mode := .oamSearch } })

/-- A tick of exactly the three budgets of a visible line, from its start, renders the line and goes to the next one, or from
143 to VBlank with IF bit 0 set and the report; and every tick ends with the counter below the budget (48_ppu.md R1210). -/
def Obligations.ATickOfALineAdvancesOneLine : Prop :=
  (∀ s : State, (∀ m, 0 < budget s.params m) → s.ppu.mode = .oamSearch → s.ppu.counter = 0 →
      (s.ppu.line < 143 → ppuTick (s.params.oamCycles + s.params.drawCycles + s.params.hblankCycles) s =
        { renderLine s s.ppu.line with ppu := { s.ppu with line := s.ppu.line + 1 }, enteringVblank := false }) ∧
      (s.ppu.line = 143 → ppuTick (s.params.oamCycles + s.params.drawCycles + s.params.hblankCycles) s =
        { renderLine s 143 with ppu := { s.ppu with line := 144, mode := .vBlank }, ifr := s.ifr ||| 1,
                                enteringVblank := true })) ∧
    ∀ (s : State) (k : Nat), (∀ m, 0 < budget s.params m) →
      (ppuTick k s).ppu.counter < budget s.params (ppuTick k s).ppu.mode

/-- Rendering a line writes the 160 pixels of its row as B, G, R, 0xFF, each shade's colour from the run's parameters, and
changes nothing else (48_ppu.md R1220, R1227, R1228). -/
def Obligations.RenderLineWritesOnlyItsRow : Prop :=
  (∀ p : Params, shadeRGB p 0 = p.shade0 ∧ shadeRGB p 1 = p.shade1 ∧ shadeRGB p 2 = p.shade2 ∧ shadeRGB p 3 = p.shade3) ∧
  ∀ (s : State) (ly px other : Nat) (c : Rgb), px < 160 →
    c = shadeRGB s.params (composePixel s ly (sortForComposite (oamScan s ly)) px) →
    renderLine s ly = { s with frame := (renderLine s ly).frame } ∧
      (renderLine s ly).frame.read (4 * (160 * ly + px)) = c.b ∧
      (renderLine s ly).frame.read (4 * (160 * ly + px) + 1) = c.g ∧
      (renderLine s ly).frame.read (4 * (160 * ly + px) + 2) = c.r ∧
      (renderLine s ly).frame.read (4 * (160 * ly + px) + 3) = 0xFF ∧
      (other < 4 * 160 * ly ∨ 4 * 160 * (ly + 1) ≤ other → (renderLine s ly).frame.read other = s.frame.read other)

/-- An OAM entry is Y, X, tile and attributes at offsets 0..3, the height and the Y offset follow LCDC bit 2; the object scan
keeps the first ten entries on the line in ascending index, and the sort is a permutation by descending X, higher index first at
equal X (48_ppu.md R1221, R1222). -/
def Obligations.ObjectScanAndSort : Prop :=
  (∀ (s : State) (k : Nat), oamEntry s k =
      ⟨k, (s.ram.read (0xFE00 + 4 * k)).toNat, (s.ram.read (0xFE00 + 4 * k + 1)).toNat, s.ram.read (0xFE00 + 4 * k + 2),
        s.ram.read (0xFE00 + 4 * k + 3)⟩) ∧
  (∀ s : State, objHeight s = (if s.ppu.lcdc.getLsbD 2 = true then 16 else 8) ∧
      objYOffset s = (if s.ppu.lcdc.getLsbD 2 = true then s.params.objYOffset16 else s.params.objYOffset8)) ∧
  ∀ (s : State) (ly : Nat),
    (∀ o ∈ oamScan s ly, ∃ k, k < 40 ∧ o = oamEntry s k ∧
      (o.y : Int) - objYOffset s ≤ ly ∧ (ly : Int) < (o.y : Int) - objYOffset s + objHeight s) ∧
      (oamScan s ly).Pairwise (fun o p => o.index < p.index) ∧ (oamScan s ly).length ≤ 10 ∧
      (∀ k, k < 40 → (oamEntry s k).y ≤ ly + objYOffset s → ly + objYOffset s < (oamEntry s k).y + objHeight s →
        oamEntry s k ∈ oamScan s ly ∨
          ((oamScan s ly).length = 10 ∧ ∀ o ∈ oamScan s ly, o.index < k)) ∧
      ((sortForComposite (oamScan s ly)).Perm (oamScan s ly)) ∧
      (sortForComposite (oamScan s ly)).Pairwise (fun o p => p.x < o.x ∨ o.x = p.x ∧ p.index < o.index)

/-- How a pixel comes from VRAM. A tile's pixel: bit 7 - col of the row's second byte over that of its first (48_ppu.md R1225).
The background: the map byte at the scrolled coordinate mod 256, its tile by either addressing mode, the shade from BGP (R1224).
An object: nothing outside its 8 columns, else the tile's pixel at its row and column, each flipped where its attribute says,
the tile index's bit 0 replaced at height 16 (R1226), the shade from OBP0 or OBP1 (R1227). The pixel's shade is the last
composited object's that shows there (colour index not 0, and its priority bit clear or the background's colour index 0), through
its palette; the background's where none shows; index 0, shade 0 with the background off; objects only with objects on (R1223). -/
def Obligations.LastShowingObjectWins : Prop :=
  (∀ (s : State) (addr row col : Nat), col < 8 → (tilePixel s addr row col).toNat =
      2 * ((s.ram.read (addr + 2 * row + 1)).toNat / 2 ^ (7 - col) % 2) + (s.ram.read (addr + 2 * row)).toNat / 2 ^ (7 - col) % 2) ∧
  (∀ (s : State) (ly px yy xx addr : Nat) (idx : Byte),
      yy = (ly + s.ppu.scy.toNat) % 256 → xx = (px + s.ppu.scx.toNat) % 256 →
      idx = s.ram.read ((if s.ppu.lcdc.getLsbD 3 = true then 0x9C00 else 0x9800) + 32 * (yy / 8) + xx / 8) →
      addr = (if s.ppu.lcdc.getLsbD 4 = true then 0x8000 + 16 * idx.toNat
        else if idx.toNat < 0x80 then 0x9000 + 16 * idx.toNat else 0x8000 + 16 * idx.toNat) →
      (bgPixel s ly px).1 = tilePixel s addr (yy % 8) (xx % 8) ∧
        (bgPixel s ly px).2 = [s.ppu.bgp.c0, s.ppu.bgp.c1, s.ppu.bgp.c2, s.ppu.bgp.c3].getD (bgPixel s ly px).1.toNat 0) ∧
  (∀ (s : State) (o : Obj) (ly px : Nat), px + 8 < o.x ∨ o.x ≤ px → objPixel s o ly px = none) ∧
  (∀ (s : State) (o : Obj) (ly px h row col row' col' : Nat),
      h = (if s.ppu.lcdc.getLsbD 2 = true then 16 else 8) → ly + objYOffset s = o.y + row → row < h → px + 8 = o.x + col → col < 8 →
      row' = (if o.attr.getLsbD 6 = true then h - 1 - row else row) → col' = (if o.attr.getLsbD 5 = true then 7 - col else col) →
      (h = 8 → objPixel s o ly px = some (tilePixel s (0x8000 + 16 * o.tile.toNat) row' col')) ∧
        (h = 16 → row' < 8 → objPixel s o ly px = some (tilePixel s (0x8000 + 32 * (o.tile.toNat / 2)) row' col')) ∧
        (h = 16 → 8 ≤ row' →
          objPixel s o ly px = some (tilePixel s (0x8000 + 32 * (o.tile.toNat / 2) + 16) (row' - 8) col'))) ∧
  (∀ p : ObjPalette, p.shade 0 = none ∧ p.shade 1 = some p.c1 ∧ p.shade 2 = some p.c2 ∧ p.shade 3 = some p.c3) ∧
  ∀ (s : State) (ly px : Nat) (objs : List Obj) (bg : BitVec 2 × Shade),
    bg = (if s.ppu.bgEnable = true then bgPixel s ly px else (0, 0)) →
    (s.ppu.objEnable = false → composePixel s ly objs px = bg.2) ∧
      (s.ppu.objEnable = true →
        (∀ o ∈ objs, ∀ c, objPixel s o ly px = some c → c ≠ 0 → o.attr.getLsbD 7 = true ∧ bg.1 ≠ 0) →
        composePixel s ly objs px = bg.2) ∧
      ∀ (before after : List Obj) (o : Obj) (c : BitVec 2) (shade : Shade), s.ppu.objEnable = true →
        objs = before ++ o :: after → objPixel s o ly px = some c → c ≠ 0 → (o.attr.getLsbD 7 = false ∨ bg.1 = 0) →
        (∀ q ∈ after, ∀ d, objPixel s q ly px = some d → d ≠ 0 → q.attr.getLsbD 7 = true ∧ bg.1 ≠ 0) →
        (if o.attr.getLsbD 4 = true then s.ppu.obp1 else s.ppu.obp0).shade c = some shade →
        composePixel s ly objs px = shade
end

