-- ==== Sys2Proof/Laws/Memory.lean ====
section
/-! SUPPORT. The laws of sparse byte arrays: read after write, and that every operation keeps the canonical form. The read
laws hold of every list, canonical or not. -/

namespace Sys2Proof.Machine

open Sys2Proof

@[simp] theorem Memory.read_nil (addr : Nat) : Memory.read [] addr = Memory.default := rfl

theorem Memory.read_cons (cell : Host.Cell) (m : Memory) (addr : Nat) :
    Memory.read (cell :: m) addr = if cell.1 = addr then cell.2 else Memory.read m addr := rfl

/-- No cell of an address: it reads as the default. -/
theorem Memory.read_of_absent (m : Memory) (addr : Nat) (h : ∀ cell ∈ m, cell.1 ≠ addr) :
    m.read addr = Memory.default := by
  induction m with
  | nil => rfl
  | cons cell m ih =>
    rw [Memory.read_cons, if_neg (h cell (by simp))]
    exact ih fun x hx => h x (by simp [hx])

/-- A filter that keeps an address's cells keeps what it reads as. -/
theorem Memory.read_filter (m : Memory) (p : Host.Cell → Bool) (addr : Nat) (h : ∀ cell ∈ m, cell.1 = addr → p cell) :
    Memory.read (m.filter p) addr = m.read addr := by
  induction m with
  | nil => rfl
  | cons cell m ih =>
    have ih' := ih fun x hx => h x (by simp [hx])
    by_cases hp : p cell
    · rw [List.filter_cons_of_pos hp, Memory.read_cons, Memory.read_cons, ih']
    · have : cell.1 ≠ addr := fun e => hp (h cell (by simp) e)
      rw [List.filter_cons_of_neg hp, ih', Memory.read_cons, if_neg this]

theorem Memory.read_insertCell_same (m : Memory) (new : Host.Cell) (h : ∀ cell ∈ m, cell.1 ≠ new.1) :
    Memory.read (m.insertCell new) new.1 = new.2 := by
  induction m with
  | nil => simp [Memory.insertCell, Memory.read_cons]
  | cons cell m ih =>
    unfold Memory.insertCell
    split
    · simp [Memory.read_cons]
    · rw [Memory.read_cons, if_neg (h cell (by simp))]
      exact ih fun x hx => h x (by simp [hx])

theorem Memory.read_insertCell_other (m : Memory) (new : Host.Cell) (addr : Nat) (h : addr ≠ new.1) :
    Memory.read (m.insertCell new) addr = m.read addr := by
  induction m with
  | nil => simp [Memory.insertCell, Memory.read_cons, Ne.symm h]
  | cons cell m ih =>
    unfold Memory.insertCell
    split
    · rw [Memory.read_cons, if_neg (Ne.symm h)]
    · rw [Memory.read_cons, Memory.read_cons, ih]

/-- A read of the address written gives the value written. -/
@[simp] theorem Memory.read_write_same (m : Memory) (addr : Nat) (v : Byte) : (m.write addr v).read addr = v := by
  unfold Memory.write
  split
  · next h => rw [h]; exact Memory.read_of_absent _ _ (by simp)
  · exact Memory.read_insertCell_same _ (addr, v) (by simp)

/-- A write leaves every other address alone. -/
theorem Memory.read_write_other (m : Memory) {addr other : Nat} (v : Byte) (h : other ≠ addr) :
    (m.write addr v).read other = m.read other := by
  have hf : Memory.read (m.filter fun cell => cell.1 != addr) other = m.read other :=
    Memory.read_filter _ _ _ (by intro cell _ e; simp [e, h])
  unfold Memory.write
  split
  · exact hf
  · rw [Memory.read_insertCell_other _ (addr, v) _ h, hf]

/-- Read after write, in one line. -/
theorem Memory.read_write (m : Memory) (addr other : Nat) (v : Byte) :
    (m.write addr v).read other = if other = addr then v else m.read other := by
  split
  · next h => rw [h, Memory.read_write_same]
  · next h => exact Memory.read_write_other m v h

theorem Memory.read_append (m n : Memory) (addr : Nat) (h : ∀ cell ∈ m, cell.1 ≠ addr) :
    Memory.read (m ++ n) addr = Memory.read n addr := by
  induction m with
  | nil => rfl
  | cons cell m ih =>
    rw [List.cons_append, Memory.read_cons, if_neg (h cell (by simp))]
    exact ih fun x hx => h x (by simp [hx])

theorem Memory.read_append_absent (m n : Memory) (addr : Nat) (h : ∀ cell ∈ n, cell.1 ≠ addr) :
    Memory.read (m ++ n) addr = Memory.read m addr := by
  induction m with
  | nil => exact Memory.read_of_absent n addr h
  | cons cell m ih => rw [List.cons_append, Memory.read_cons, Memory.read_cons, ih]

theorem Memory.mem_cellsFrom {addr : Nat} {bytes : List Byte} {cell : Host.Cell}
    (h : cell ∈ Memory.cellsFrom addr bytes) :
    addr ≤ cell.1 ∧ cell.1 < addr + bytes.length ∧ cell.2 ≠ Memory.default := by
  induction bytes generalizing addr with
  | nil => simp [Memory.cellsFrom] at h
  | cons v rest ih =>
    unfold Memory.cellsFrom at h
    split at h
    · obtain ⟨h1, h2, h3⟩ := ih h
      simp only [List.length_cons]
      exact ⟨by omega, by omega, h3⟩
    · next hv =>
      simp only [List.mem_cons] at h
      rcases h with rfl | h
      · exact ⟨by simp, by simp, hv⟩
      · obtain ⟨h1, h2, h3⟩ := ih h
        simp only [List.length_cons]
        exact ⟨by omega, by omega, h3⟩

theorem Memory.read_cellsFrom (addr : Nat) (bytes : List Byte) (i : Nat) (h : i < bytes.length) :
    Memory.read (Memory.cellsFrom addr bytes) (addr + i) = bytes[i] := by
  induction bytes generalizing addr i with
  | nil => simp at h
  | cons v rest ih =>
    unfold Memory.cellsFrom
    cases i with
    | zero =>
      split
      · next hv =>
        rw [Memory.read_of_absent]
        · simp [hv]
        · intro cell hc
          have := (Memory.mem_cellsFrom hc).1
          omega
      · simp [Memory.read_cons]
    | succ i =>
      have hi : i < rest.length := by simpa using h
      have key := ih (addr + 1) i hi
      have e : addr + 1 + i = addr + (i + 1) := by omega
      rw [e] at key
      split
      · simpa using key
      · rw [Memory.read_cons, if_neg (by simp)]
        simpa using key

/-- A row write gives each byte of the row and leaves every other address alone. -/
theorem Memory.read_writeRow (m : Memory) (addr : Nat) (bytes : List Byte) (other : Nat) :
    (m.writeRow addr bytes).read other =
      if h : addr ≤ other ∧ other < addr + bytes.length then bytes[other - addr]'(by omega) else m.read other := by
  unfold Memory.writeRow
  by_cases h : addr ≤ other ∧ other < addr + bytes.length
  · rw [dif_pos h, Memory.read_append_absent _ _ _ (by intro cell hc; simp at hc; omega),
      Memory.read_append _ _ _ (by intro cell hc; simp at hc; omega)]
    have := Memory.read_cellsFrom addr bytes (other - addr) (by omega)
    rwa [show addr + (other - addr) = other by omega] at this
  · rw [dif_neg h]
    by_cases hlt : other < addr
    · rw [Memory.read_append_absent _ _ _ (by intro cell hc; simp at hc; omega),
        Memory.read_append_absent _ _ _ (by intro cell hc; have := Memory.mem_cellsFrom hc; omega),
        Memory.read_filter _ _ _ (by intro cell _ e; simp [e, hlt])]
    · rw [Memory.read_append _ _ _ (by
          intro cell hc
          rcases List.mem_append.1 hc with hc | hc
          · simp at hc; omega
          · have := Memory.mem_cellsFrom hc; omega),
        Memory.read_filter _ _ _ (by intro cell _ e; simp [e]; omega)]

/-! ### Every operation keeps the canonical form -/

theorem Memory.mem_insertCell {m : Memory} {new cell : Host.Cell} :
    cell ∈ m.insertCell new ↔ cell = new ∨ cell ∈ m := by
  induction m with
  | nil => simp [Memory.insertCell]
  | cons d m ih =>
    unfold Memory.insertCell
    split <;> simp [ih]
    tauto

theorem Memory.insertCell_rising {m : Memory} {new : Host.Cell} (hm : m.Pairwise (fun x y => x.1 < y.1))
    (hn : ∀ cell ∈ m, cell.1 ≠ new.1) : (m.insertCell new).Pairwise (fun x y => x.1 < y.1) := by
  induction m with
  | nil => simp [Memory.insertCell]
  | cons d m ih =>
    have hd := List.pairwise_cons.1 hm
    unfold Memory.insertCell
    split
    · next hlt =>
      refine List.pairwise_cons.2 ⟨fun x hx => ?_, hm⟩
      rcases List.mem_cons.1 hx with rfl | hx
      · exact hlt
      · exact Nat.lt_trans hlt (hd.1 x hx)
    · next hge =>
      refine List.pairwise_cons.2 ⟨fun x hx => ?_, ih hd.2 fun y hy => hn y (by simp [hy])⟩
      rcases Memory.mem_insertCell.1 hx with rfl | hx
      · have := hn d (by simp)
        omega
      · exact hd.1 x hx

/-- A cell of a written memory is the new one, or an old one of another address. -/
theorem Memory.mem_write {m : Memory} {addr : Nat} {v : Byte} {cell : Host.Cell} (h : cell ∈ m.write addr v) :
    cell = (addr, v) ∧ v ≠ Memory.default ∨ cell ∈ m ∧ cell.1 ≠ addr := by
  unfold Memory.write at h
  split at h
  · right; simpa using h
  · next hv =>
    rcases Memory.mem_insertCell.1 h with h | h
    · exact .inl ⟨h, hv⟩
    · right; simpa using h

/-- A write keeps the canonical form. -/
theorem Memory.wf_write {m : Memory} (hm : m.wf) (addr : Nat) (v : Byte) : (m.write addr v).wf := by
  refine ⟨?_, fun cell hc => ?_⟩
  · have hf := hm.1.filter fun cell : Host.Cell => cell.1 != addr
    unfold Memory.write
    split
    · exact hf
    · exact Memory.insertCell_rising hf (by simp)
  · rcases Memory.mem_write hc with ⟨rfl, h⟩ | ⟨h, _⟩
    · exact h
    · exact hm.2 cell h

theorem Memory.cellsFrom_rising (addr : Nat) (bytes : List Byte) :
    (Memory.cellsFrom addr bytes).Pairwise (fun x y => x.1 < y.1) := by
  induction bytes generalizing addr with
  | nil => simp [Memory.cellsFrom]
  | cons v rest ih =>
    unfold Memory.cellsFrom
    split
    · exact ih _
    · refine List.pairwise_cons.2 ⟨fun x hx => ?_, ih _⟩
      have := (Memory.mem_cellsFrom hx).1
      simp; omega

/-- A cell after a row write is one of the row, or an old one. -/
theorem Memory.mem_writeRow {m : Memory} {addr : Nat} {bytes : List Byte} {cell : Host.Cell}
    (h : cell ∈ m.writeRow addr bytes) : cell ∈ m ∨ addr ≤ cell.1 ∧ cell.1 < addr + bytes.length := by
  unfold Memory.writeRow at h
  rcases List.mem_append.1 h with h | h
  · rcases List.mem_append.1 h with h | h
    · exact .inl (List.mem_filter.1 h).1
    · exact .inr ⟨(Memory.mem_cellsFrom h).1, (Memory.mem_cellsFrom h).2.1⟩
  · exact .inl (List.mem_filter.1 h).1

/-- A row write keeps the canonical form. -/
theorem Memory.wf_writeRow {m : Memory} (hm : m.wf) (addr : Nat) (bytes : List Byte) : (m.writeRow addr bytes).wf := by
  unfold Memory.writeRow
  refine ⟨?_, fun cell hc => ?_⟩
  · refine List.pairwise_append.2 ⟨List.pairwise_append.2 ⟨hm.1.filter _, Memory.cellsFrom_rising _ _, ?_⟩,
      hm.1.filter _, ?_⟩
    · intro x hx y hy
      have := (Memory.mem_cellsFrom hy).1
      simp at hx; omega
    · intro x hx y hy
      simp at hy
      rcases List.mem_append.1 hx with hx | hx
      · simp at hx; omega
      · have := (Memory.mem_cellsFrom hx).2.1
        omega
  · rcases List.mem_append.1 hc with hc | hc
    · rcases List.mem_append.1 hc with hc | hc
      · exact hm.2 cell (List.mem_filter.1 hc).1
      · exact (Memory.mem_cellsFrom hc).2.2
    · exact hm.2 cell (List.mem_filter.1 hc).1

end Sys2Proof.Machine
end

