-- ==== Sys2Proof/Laws/State.lean ====
section
/-! SUPPORT. One lemma per field per update of State, so that no proof unfolds a record update. -/

namespace Sys2Proof.Machine

open Sys2Proof

/-! ### setBC -/

@[simp] theorem setBC_a (s : State) (v : Word) : (s.setBC v).a = s.a := rfl
@[simp] theorem setBC_b (s : State) (v : Word) : (s.setBC v).b = hiByte v := rfl
@[simp] theorem setBC_c (s : State) (v : Word) : (s.setBC v).c = loByte v := rfl
@[simp] theorem setBC_d (s : State) (v : Word) : (s.setBC v).d = s.d := rfl
@[simp] theorem setBC_e (s : State) (v : Word) : (s.setBC v).e = s.e := rfl
@[simp] theorem setBC_h (s : State) (v : Word) : (s.setBC v).h = s.h := rfl
@[simp] theorem setBC_l (s : State) (v : Word) : (s.setBC v).l = s.l := rfl
@[simp] theorem setBC_fZ (s : State) (v : Word) : (s.setBC v).fZ = s.fZ := rfl
@[simp] theorem setBC_fN (s : State) (v : Word) : (s.setBC v).fN = s.fN := rfl
@[simp] theorem setBC_fH (s : State) (v : Word) : (s.setBC v).fH = s.fH := rfl
@[simp] theorem setBC_fC (s : State) (v : Word) : (s.setBC v).fC = s.fC := rfl
@[simp] theorem setBC_sp (s : State) (v : Word) : (s.setBC v).sp = s.sp := rfl
@[simp] theorem setBC_pc (s : State) (v : Word) : (s.setBC v).pc = s.pc := rfl
@[simp] theorem setBC_ime (s : State) (v : Word) : (s.setBC v).ime = s.ime := rfl
@[simp] theorem setBC_ifr (s : State) (v : Word) : (s.setBC v).ifr = s.ifr := rfl
@[simp] theorem setBC_ie (s : State) (v : Word) : (s.setBC v).ie = s.ie := rfl
@[simp] theorem setBC_halted (s : State) (v : Word) : (s.setBC v).halted = s.halted := rfl
@[simp] theorem setBC_rom (s : State) (v : Word) : (s.setBC v).rom = s.rom := rfl
@[simp] theorem setBC_romLen (s : State) (v : Word) : (s.setBC v).romLen = s.romLen := rfl
@[simp] theorem setBC_hasMBC1 (s : State) (v : Word) : (s.setBC v).hasMBC1 = s.hasMBC1 := rfl
@[simp] theorem setBC_ram (s : State) (v : Word) : (s.setBC v).ram = s.ram := rfl
@[simp] theorem setBC_romBank (s : State) (v : Word) : (s.setBC v).romBank = s.romBank := rfl
@[simp] theorem setBC_slots (s : State) (v : Word) : (s.setBC v).slots = s.slots := rfl
@[simp] theorem setBC_ppu (s : State) (v : Word) : (s.setBC v).ppu = s.ppu := rfl
@[simp] theorem setBC_frame (s : State) (v : Word) : (s.setBC v).frame = s.frame := rfl
@[simp] theorem setBC_enteringVblank (s : State) (v : Word) : (s.setBC v).enteringVblank = s.enteringVblank := rfl
@[simp] theorem setBC_run (s : State) (v : Word) : (s.setBC v).run = s.run := rfl
@[simp] theorem setBC_params (s : State) (v : Word) : (s.setBC v).params = s.params := rfl
@[simp] theorem setBC_periphWrites (s : State) (v : Word) : (s.setBC v).periphWrites = s.periphWrites := rfl
@[simp] theorem setBC_agentTicks (s : State) (v : Word) : (s.setBC v).agentTicks = s.agentTicks := rfl
@[simp] theorem setBC_draws (s : State) (v : Word) : (s.setBC v).draws = s.draws := rfl

/-! ### setDE -/

@[simp] theorem setDE_a (s : State) (v : Word) : (s.setDE v).a = s.a := rfl
@[simp] theorem setDE_b (s : State) (v : Word) : (s.setDE v).b = s.b := rfl
@[simp] theorem setDE_c (s : State) (v : Word) : (s.setDE v).c = s.c := rfl
@[simp] theorem setDE_d (s : State) (v : Word) : (s.setDE v).d = hiByte v := rfl
@[simp] theorem setDE_e (s : State) (v : Word) : (s.setDE v).e = loByte v := rfl
@[simp] theorem setDE_h (s : State) (v : Word) : (s.setDE v).h = s.h := rfl
@[simp] theorem setDE_l (s : State) (v : Word) : (s.setDE v).l = s.l := rfl
@[simp] theorem setDE_fZ (s : State) (v : Word) : (s.setDE v).fZ = s.fZ := rfl
@[simp] theorem setDE_fN (s : State) (v : Word) : (s.setDE v).fN = s.fN := rfl
@[simp] theorem setDE_fH (s : State) (v : Word) : (s.setDE v).fH = s.fH := rfl
@[simp] theorem setDE_fC (s : State) (v : Word) : (s.setDE v).fC = s.fC := rfl
@[simp] theorem setDE_sp (s : State) (v : Word) : (s.setDE v).sp = s.sp := rfl
@[simp] theorem setDE_pc (s : State) (v : Word) : (s.setDE v).pc = s.pc := rfl
@[simp] theorem setDE_ime (s : State) (v : Word) : (s.setDE v).ime = s.ime := rfl
@[simp] theorem setDE_ifr (s : State) (v : Word) : (s.setDE v).ifr = s.ifr := rfl
@[simp] theorem setDE_ie (s : State) (v : Word) : (s.setDE v).ie = s.ie := rfl
@[simp] theorem setDE_halted (s : State) (v : Word) : (s.setDE v).halted = s.halted := rfl
@[simp] theorem setDE_rom (s : State) (v : Word) : (s.setDE v).rom = s.rom := rfl
@[simp] theorem setDE_romLen (s : State) (v : Word) : (s.setDE v).romLen = s.romLen := rfl
@[simp] theorem setDE_hasMBC1 (s : State) (v : Word) : (s.setDE v).hasMBC1 = s.hasMBC1 := rfl
@[simp] theorem setDE_ram (s : State) (v : Word) : (s.setDE v).ram = s.ram := rfl
@[simp] theorem setDE_romBank (s : State) (v : Word) : (s.setDE v).romBank = s.romBank := rfl
@[simp] theorem setDE_slots (s : State) (v : Word) : (s.setDE v).slots = s.slots := rfl
@[simp] theorem setDE_ppu (s : State) (v : Word) : (s.setDE v).ppu = s.ppu := rfl
@[simp] theorem setDE_frame (s : State) (v : Word) : (s.setDE v).frame = s.frame := rfl
@[simp] theorem setDE_enteringVblank (s : State) (v : Word) : (s.setDE v).enteringVblank = s.enteringVblank := rfl
@[simp] theorem setDE_run (s : State) (v : Word) : (s.setDE v).run = s.run := rfl
@[simp] theorem setDE_params (s : State) (v : Word) : (s.setDE v).params = s.params := rfl
@[simp] theorem setDE_periphWrites (s : State) (v : Word) : (s.setDE v).periphWrites = s.periphWrites := rfl
@[simp] theorem setDE_agentTicks (s : State) (v : Word) : (s.setDE v).agentTicks = s.agentTicks := rfl
@[simp] theorem setDE_draws (s : State) (v : Word) : (s.setDE v).draws = s.draws := rfl

/-! ### setHL -/

@[simp] theorem setHL_a (s : State) (v : Word) : (s.setHL v).a = s.a := rfl
@[simp] theorem setHL_b (s : State) (v : Word) : (s.setHL v).b = s.b := rfl
@[simp] theorem setHL_c (s : State) (v : Word) : (s.setHL v).c = s.c := rfl
@[simp] theorem setHL_d (s : State) (v : Word) : (s.setHL v).d = s.d := rfl
@[simp] theorem setHL_e (s : State) (v : Word) : (s.setHL v).e = s.e := rfl
@[simp] theorem setHL_h (s : State) (v : Word) : (s.setHL v).h = hiByte v := rfl
@[simp] theorem setHL_l (s : State) (v : Word) : (s.setHL v).l = loByte v := rfl
@[simp] theorem setHL_fZ (s : State) (v : Word) : (s.setHL v).fZ = s.fZ := rfl
@[simp] theorem setHL_fN (s : State) (v : Word) : (s.setHL v).fN = s.fN := rfl
@[simp] theorem setHL_fH (s : State) (v : Word) : (s.setHL v).fH = s.fH := rfl
@[simp] theorem setHL_fC (s : State) (v : Word) : (s.setHL v).fC = s.fC := rfl
@[simp] theorem setHL_sp (s : State) (v : Word) : (s.setHL v).sp = s.sp := rfl
@[simp] theorem setHL_pc (s : State) (v : Word) : (s.setHL v).pc = s.pc := rfl
@[simp] theorem setHL_ime (s : State) (v : Word) : (s.setHL v).ime = s.ime := rfl
@[simp] theorem setHL_ifr (s : State) (v : Word) : (s.setHL v).ifr = s.ifr := rfl
@[simp] theorem setHL_ie (s : State) (v : Word) : (s.setHL v).ie = s.ie := rfl
@[simp] theorem setHL_halted (s : State) (v : Word) : (s.setHL v).halted = s.halted := rfl
@[simp] theorem setHL_rom (s : State) (v : Word) : (s.setHL v).rom = s.rom := rfl
@[simp] theorem setHL_romLen (s : State) (v : Word) : (s.setHL v).romLen = s.romLen := rfl
@[simp] theorem setHL_hasMBC1 (s : State) (v : Word) : (s.setHL v).hasMBC1 = s.hasMBC1 := rfl
@[simp] theorem setHL_ram (s : State) (v : Word) : (s.setHL v).ram = s.ram := rfl
@[simp] theorem setHL_romBank (s : State) (v : Word) : (s.setHL v).romBank = s.romBank := rfl
@[simp] theorem setHL_slots (s : State) (v : Word) : (s.setHL v).slots = s.slots := rfl
@[simp] theorem setHL_ppu (s : State) (v : Word) : (s.setHL v).ppu = s.ppu := rfl
@[simp] theorem setHL_frame (s : State) (v : Word) : (s.setHL v).frame = s.frame := rfl
@[simp] theorem setHL_enteringVblank (s : State) (v : Word) : (s.setHL v).enteringVblank = s.enteringVblank := rfl
@[simp] theorem setHL_run (s : State) (v : Word) : (s.setHL v).run = s.run := rfl
@[simp] theorem setHL_params (s : State) (v : Word) : (s.setHL v).params = s.params := rfl
@[simp] theorem setHL_periphWrites (s : State) (v : Word) : (s.setHL v).periphWrites = s.periphWrites := rfl
@[simp] theorem setHL_agentTicks (s : State) (v : Word) : (s.setHL v).agentTicks = s.agentTicks := rfl
@[simp] theorem setHL_draws (s : State) (v : Word) : (s.setHL v).draws = s.draws := rfl

/-! ### setSP -/

@[simp] theorem setSP_a (s : State) (v : Word) : (s.setSP v).a = s.a := rfl
@[simp] theorem setSP_b (s : State) (v : Word) : (s.setSP v).b = s.b := rfl
@[simp] theorem setSP_c (s : State) (v : Word) : (s.setSP v).c = s.c := rfl
@[simp] theorem setSP_d (s : State) (v : Word) : (s.setSP v).d = s.d := rfl
@[simp] theorem setSP_e (s : State) (v : Word) : (s.setSP v).e = s.e := rfl
@[simp] theorem setSP_h (s : State) (v : Word) : (s.setSP v).h = s.h := rfl
@[simp] theorem setSP_l (s : State) (v : Word) : (s.setSP v).l = s.l := rfl
@[simp] theorem setSP_fZ (s : State) (v : Word) : (s.setSP v).fZ = s.fZ := rfl
@[simp] theorem setSP_fN (s : State) (v : Word) : (s.setSP v).fN = s.fN := rfl
@[simp] theorem setSP_fH (s : State) (v : Word) : (s.setSP v).fH = s.fH := rfl
@[simp] theorem setSP_fC (s : State) (v : Word) : (s.setSP v).fC = s.fC := rfl
@[simp] theorem setSP_sp (s : State) (v : Word) : (s.setSP v).sp = v := rfl
@[simp] theorem setSP_pc (s : State) (v : Word) : (s.setSP v).pc = s.pc := rfl
@[simp] theorem setSP_ime (s : State) (v : Word) : (s.setSP v).ime = s.ime := rfl
@[simp] theorem setSP_ifr (s : State) (v : Word) : (s.setSP v).ifr = s.ifr := rfl
@[simp] theorem setSP_ie (s : State) (v : Word) : (s.setSP v).ie = s.ie := rfl
@[simp] theorem setSP_halted (s : State) (v : Word) : (s.setSP v).halted = s.halted := rfl
@[simp] theorem setSP_rom (s : State) (v : Word) : (s.setSP v).rom = s.rom := rfl
@[simp] theorem setSP_romLen (s : State) (v : Word) : (s.setSP v).romLen = s.romLen := rfl
@[simp] theorem setSP_hasMBC1 (s : State) (v : Word) : (s.setSP v).hasMBC1 = s.hasMBC1 := rfl
@[simp] theorem setSP_ram (s : State) (v : Word) : (s.setSP v).ram = s.ram := rfl
@[simp] theorem setSP_romBank (s : State) (v : Word) : (s.setSP v).romBank = s.romBank := rfl
@[simp] theorem setSP_slots (s : State) (v : Word) : (s.setSP v).slots = s.slots := rfl
@[simp] theorem setSP_ppu (s : State) (v : Word) : (s.setSP v).ppu = s.ppu := rfl
@[simp] theorem setSP_frame (s : State) (v : Word) : (s.setSP v).frame = s.frame := rfl
@[simp] theorem setSP_enteringVblank (s : State) (v : Word) : (s.setSP v).enteringVblank = s.enteringVblank := rfl
@[simp] theorem setSP_run (s : State) (v : Word) : (s.setSP v).run = s.run := rfl
@[simp] theorem setSP_params (s : State) (v : Word) : (s.setSP v).params = s.params := rfl
@[simp] theorem setSP_periphWrites (s : State) (v : Word) : (s.setSP v).periphWrites = s.periphWrites := rfl
@[simp] theorem setSP_agentTicks (s : State) (v : Word) : (s.setSP v).agentTicks = s.agentTicks := rfl
@[simp] theorem setSP_draws (s : State) (v : Word) : (s.setSP v).draws = s.draws := rfl

/-! ### setPC -/

@[simp] theorem setPC_a (s : State) (v : Word) : (s.setPC v).a = s.a := rfl
@[simp] theorem setPC_b (s : State) (v : Word) : (s.setPC v).b = s.b := rfl
@[simp] theorem setPC_c (s : State) (v : Word) : (s.setPC v).c = s.c := rfl
@[simp] theorem setPC_d (s : State) (v : Word) : (s.setPC v).d = s.d := rfl
@[simp] theorem setPC_e (s : State) (v : Word) : (s.setPC v).e = s.e := rfl
@[simp] theorem setPC_h (s : State) (v : Word) : (s.setPC v).h = s.h := rfl
@[simp] theorem setPC_l (s : State) (v : Word) : (s.setPC v).l = s.l := rfl
@[simp] theorem setPC_fZ (s : State) (v : Word) : (s.setPC v).fZ = s.fZ := rfl
@[simp] theorem setPC_fN (s : State) (v : Word) : (s.setPC v).fN = s.fN := rfl
@[simp] theorem setPC_fH (s : State) (v : Word) : (s.setPC v).fH = s.fH := rfl
@[simp] theorem setPC_fC (s : State) (v : Word) : (s.setPC v).fC = s.fC := rfl
@[simp] theorem setPC_sp (s : State) (v : Word) : (s.setPC v).sp = s.sp := rfl
@[simp] theorem setPC_pc (s : State) (v : Word) : (s.setPC v).pc = v := rfl
@[simp] theorem setPC_ime (s : State) (v : Word) : (s.setPC v).ime = s.ime := rfl
@[simp] theorem setPC_ifr (s : State) (v : Word) : (s.setPC v).ifr = s.ifr := rfl
@[simp] theorem setPC_ie (s : State) (v : Word) : (s.setPC v).ie = s.ie := rfl
@[simp] theorem setPC_halted (s : State) (v : Word) : (s.setPC v).halted = s.halted := rfl
@[simp] theorem setPC_rom (s : State) (v : Word) : (s.setPC v).rom = s.rom := rfl
@[simp] theorem setPC_romLen (s : State) (v : Word) : (s.setPC v).romLen = s.romLen := rfl
@[simp] theorem setPC_hasMBC1 (s : State) (v : Word) : (s.setPC v).hasMBC1 = s.hasMBC1 := rfl
@[simp] theorem setPC_ram (s : State) (v : Word) : (s.setPC v).ram = s.ram := rfl
@[simp] theorem setPC_romBank (s : State) (v : Word) : (s.setPC v).romBank = s.romBank := rfl
@[simp] theorem setPC_slots (s : State) (v : Word) : (s.setPC v).slots = s.slots := rfl
@[simp] theorem setPC_ppu (s : State) (v : Word) : (s.setPC v).ppu = s.ppu := rfl
@[simp] theorem setPC_frame (s : State) (v : Word) : (s.setPC v).frame = s.frame := rfl
@[simp] theorem setPC_enteringVblank (s : State) (v : Word) : (s.setPC v).enteringVblank = s.enteringVblank := rfl
@[simp] theorem setPC_run (s : State) (v : Word) : (s.setPC v).run = s.run := rfl
@[simp] theorem setPC_params (s : State) (v : Word) : (s.setPC v).params = s.params := rfl
@[simp] theorem setPC_periphWrites (s : State) (v : Word) : (s.setPC v).periphWrites = s.periphWrites := rfl
@[simp] theorem setPC_agentTicks (s : State) (v : Word) : (s.setPC v).agentTicks = s.agentTicks := rfl
@[simp] theorem setPC_draws (s : State) (v : Word) : (s.setPC v).draws = s.draws := rfl

/-! ### setF -/

@[simp] theorem setF_a (s : State) (v : Byte) : (s.setF v).a = s.a := rfl
@[simp] theorem setF_b (s : State) (v : Byte) : (s.setF v).b = s.b := rfl
@[simp] theorem setF_c (s : State) (v : Byte) : (s.setF v).c = s.c := rfl
@[simp] theorem setF_d (s : State) (v : Byte) : (s.setF v).d = s.d := rfl
@[simp] theorem setF_e (s : State) (v : Byte) : (s.setF v).e = s.e := rfl
@[simp] theorem setF_h (s : State) (v : Byte) : (s.setF v).h = s.h := rfl
@[simp] theorem setF_l (s : State) (v : Byte) : (s.setF v).l = s.l := rfl
@[simp] theorem setF_fZ (s : State) (v : Byte) : (s.setF v).fZ = v.getLsbD 7 := rfl
@[simp] theorem setF_fN (s : State) (v : Byte) : (s.setF v).fN = v.getLsbD 6 := rfl
@[simp] theorem setF_fH (s : State) (v : Byte) : (s.setF v).fH = v.getLsbD 5 := rfl
@[simp] theorem setF_fC (s : State) (v : Byte) : (s.setF v).fC = v.getLsbD 4 := rfl
@[simp] theorem setF_sp (s : State) (v : Byte) : (s.setF v).sp = s.sp := rfl
@[simp] theorem setF_pc (s : State) (v : Byte) : (s.setF v).pc = s.pc := rfl
@[simp] theorem setF_ime (s : State) (v : Byte) : (s.setF v).ime = s.ime := rfl
@[simp] theorem setF_ifr (s : State) (v : Byte) : (s.setF v).ifr = s.ifr := rfl
@[simp] theorem setF_ie (s : State) (v : Byte) : (s.setF v).ie = s.ie := rfl
@[simp] theorem setF_halted (s : State) (v : Byte) : (s.setF v).halted = s.halted := rfl
@[simp] theorem setF_rom (s : State) (v : Byte) : (s.setF v).rom = s.rom := rfl
@[simp] theorem setF_romLen (s : State) (v : Byte) : (s.setF v).romLen = s.romLen := rfl
@[simp] theorem setF_hasMBC1 (s : State) (v : Byte) : (s.setF v).hasMBC1 = s.hasMBC1 := rfl
@[simp] theorem setF_ram (s : State) (v : Byte) : (s.setF v).ram = s.ram := rfl
@[simp] theorem setF_romBank (s : State) (v : Byte) : (s.setF v).romBank = s.romBank := rfl
@[simp] theorem setF_slots (s : State) (v : Byte) : (s.setF v).slots = s.slots := rfl
@[simp] theorem setF_ppu (s : State) (v : Byte) : (s.setF v).ppu = s.ppu := rfl
@[simp] theorem setF_frame (s : State) (v : Byte) : (s.setF v).frame = s.frame := rfl
@[simp] theorem setF_enteringVblank (s : State) (v : Byte) : (s.setF v).enteringVblank = s.enteringVblank := rfl
@[simp] theorem setF_run (s : State) (v : Byte) : (s.setF v).run = s.run := rfl
@[simp] theorem setF_params (s : State) (v : Byte) : (s.setF v).params = s.params := rfl
@[simp] theorem setF_periphWrites (s : State) (v : Byte) : (s.setF v).periphWrites = s.periphWrites := rfl
@[simp] theorem setF_agentTicks (s : State) (v : Byte) : (s.setF v).agentTicks = s.agentTicks := rfl
@[simp] theorem setF_draws (s : State) (v : Byte) : (s.setF v).draws = s.draws := rfl

/-! ### setAF -/

@[simp] theorem setAF_a (s : State) (v : Word) : (s.setAF v).a = hiByte v := rfl
@[simp] theorem setAF_b (s : State) (v : Word) : (s.setAF v).b = s.b := rfl
@[simp] theorem setAF_c (s : State) (v : Word) : (s.setAF v).c = s.c := rfl
@[simp] theorem setAF_d (s : State) (v : Word) : (s.setAF v).d = s.d := rfl
@[simp] theorem setAF_e (s : State) (v : Word) : (s.setAF v).e = s.e := rfl
@[simp] theorem setAF_h (s : State) (v : Word) : (s.setAF v).h = s.h := rfl
@[simp] theorem setAF_l (s : State) (v : Word) : (s.setAF v).l = s.l := rfl
@[simp] theorem setAF_fZ (s : State) (v : Word) : (s.setAF v).fZ = (loByte v).getLsbD 7 := rfl
@[simp] theorem setAF_fN (s : State) (v : Word) : (s.setAF v).fN = (loByte v).getLsbD 6 := rfl
@[simp] theorem setAF_fH (s : State) (v : Word) : (s.setAF v).fH = (loByte v).getLsbD 5 := rfl
@[simp] theorem setAF_fC (s : State) (v : Word) : (s.setAF v).fC = (loByte v).getLsbD 4 := rfl
@[simp] theorem setAF_sp (s : State) (v : Word) : (s.setAF v).sp = s.sp := rfl
@[simp] theorem setAF_pc (s : State) (v : Word) : (s.setAF v).pc = s.pc := rfl
@[simp] theorem setAF_ime (s : State) (v : Word) : (s.setAF v).ime = s.ime := rfl
@[simp] theorem setAF_ifr (s : State) (v : Word) : (s.setAF v).ifr = s.ifr := rfl
@[simp] theorem setAF_ie (s : State) (v : Word) : (s.setAF v).ie = s.ie := rfl
@[simp] theorem setAF_halted (s : State) (v : Word) : (s.setAF v).halted = s.halted := rfl
@[simp] theorem setAF_rom (s : State) (v : Word) : (s.setAF v).rom = s.rom := rfl
@[simp] theorem setAF_romLen (s : State) (v : Word) : (s.setAF v).romLen = s.romLen := rfl
@[simp] theorem setAF_hasMBC1 (s : State) (v : Word) : (s.setAF v).hasMBC1 = s.hasMBC1 := rfl
@[simp] theorem setAF_ram (s : State) (v : Word) : (s.setAF v).ram = s.ram := rfl
@[simp] theorem setAF_romBank (s : State) (v : Word) : (s.setAF v).romBank = s.romBank := rfl
@[simp] theorem setAF_slots (s : State) (v : Word) : (s.setAF v).slots = s.slots := rfl
@[simp] theorem setAF_ppu (s : State) (v : Word) : (s.setAF v).ppu = s.ppu := rfl
@[simp] theorem setAF_frame (s : State) (v : Word) : (s.setAF v).frame = s.frame := rfl
@[simp] theorem setAF_enteringVblank (s : State) (v : Word) : (s.setAF v).enteringVblank = s.enteringVblank := rfl
@[simp] theorem setAF_run (s : State) (v : Word) : (s.setAF v).run = s.run := rfl
@[simp] theorem setAF_params (s : State) (v : Word) : (s.setAF v).params = s.params := rfl
@[simp] theorem setAF_periphWrites (s : State) (v : Word) : (s.setAF v).periphWrites = s.periphWrites := rfl
@[simp] theorem setAF_agentTicks (s : State) (v : Word) : (s.setAF v).agentTicks = s.agentTicks := rfl
@[simp] theorem setAF_draws (s : State) (v : Word) : (s.setAF v).draws = s.draws := rfl

/-! ### setFlags -/

@[simp] theorem setFlags_a (s : State) (z n h c : Bool) : (s.setFlags z n h c).a = s.a := rfl
@[simp] theorem setFlags_b (s : State) (z n h c : Bool) : (s.setFlags z n h c).b = s.b := rfl
@[simp] theorem setFlags_c (s : State) (z n h c : Bool) : (s.setFlags z n h c).c = s.c := rfl
@[simp] theorem setFlags_d (s : State) (z n h c : Bool) : (s.setFlags z n h c).d = s.d := rfl
@[simp] theorem setFlags_e (s : State) (z n h c : Bool) : (s.setFlags z n h c).e = s.e := rfl
@[simp] theorem setFlags_h (s : State) (z n h c : Bool) : (s.setFlags z n h c).h = s.h := rfl
@[simp] theorem setFlags_l (s : State) (z n h c : Bool) : (s.setFlags z n h c).l = s.l := rfl
@[simp] theorem setFlags_fZ (s : State) (z n h c : Bool) : (s.setFlags z n h c).fZ = z := rfl
@[simp] theorem setFlags_fN (s : State) (z n h c : Bool) : (s.setFlags z n h c).fN = n := rfl
@[simp] theorem setFlags_fH (s : State) (z n h c : Bool) : (s.setFlags z n h c).fH = h := rfl
@[simp] theorem setFlags_fC (s : State) (z n h c : Bool) : (s.setFlags z n h c).fC = c := rfl
@[simp] theorem setFlags_sp (s : State) (z n h c : Bool) : (s.setFlags z n h c).sp = s.sp := rfl
@[simp] theorem setFlags_pc (s : State) (z n h c : Bool) : (s.setFlags z n h c).pc = s.pc := rfl
@[simp] theorem setFlags_ime (s : State) (z n h c : Bool) : (s.setFlags z n h c).ime = s.ime := rfl
@[simp] theorem setFlags_ifr (s : State) (z n h c : Bool) : (s.setFlags z n h c).ifr = s.ifr := rfl
@[simp] theorem setFlags_ie (s : State) (z n h c : Bool) : (s.setFlags z n h c).ie = s.ie := rfl
@[simp] theorem setFlags_halted (s : State) (z n h c : Bool) : (s.setFlags z n h c).halted = s.halted := rfl
@[simp] theorem setFlags_rom (s : State) (z n h c : Bool) : (s.setFlags z n h c).rom = s.rom := rfl
@[simp] theorem setFlags_romLen (s : State) (z n h c : Bool) : (s.setFlags z n h c).romLen = s.romLen := rfl
@[simp] theorem setFlags_hasMBC1 (s : State) (z n h c : Bool) : (s.setFlags z n h c).hasMBC1 = s.hasMBC1 := rfl
@[simp] theorem setFlags_ram (s : State) (z n h c : Bool) : (s.setFlags z n h c).ram = s.ram := rfl
@[simp] theorem setFlags_romBank (s : State) (z n h c : Bool) : (s.setFlags z n h c).romBank = s.romBank := rfl
@[simp] theorem setFlags_slots (s : State) (z n h c : Bool) : (s.setFlags z n h c).slots = s.slots := rfl
@[simp] theorem setFlags_ppu (s : State) (z n h c : Bool) : (s.setFlags z n h c).ppu = s.ppu := rfl
@[simp] theorem setFlags_frame (s : State) (z n h c : Bool) : (s.setFlags z n h c).frame = s.frame := rfl
@[simp] theorem setFlags_enteringVblank (s : State) (z n h c : Bool) : (s.setFlags z n h c).enteringVblank = s.enteringVblank := rfl
@[simp] theorem setFlags_run (s : State) (z n h c : Bool) : (s.setFlags z n h c).run = s.run := rfl
@[simp] theorem setFlags_params (s : State) (z n h c : Bool) : (s.setFlags z n h c).params = s.params := rfl
@[simp] theorem setFlags_periphWrites (s : State) (z n h c : Bool) : (s.setFlags z n h c).periphWrites = s.periphWrites := rfl
@[simp] theorem setFlags_agentTicks (s : State) (z n h c : Bool) : (s.setFlags z n h c).agentTicks = s.agentTicks := rfl
@[simp] theorem setFlags_draws (s : State) (z n h c : Bool) : (s.setFlags z n h c).draws = s.draws := rfl

/-! ### flagged -/

@[simp] theorem flagged_a (s : State) (r : Flagged) : (s.flagged r).a = s.a := rfl
@[simp] theorem flagged_b (s : State) (r : Flagged) : (s.flagged r).b = s.b := rfl
@[simp] theorem flagged_c (s : State) (r : Flagged) : (s.flagged r).c = s.c := rfl
@[simp] theorem flagged_d (s : State) (r : Flagged) : (s.flagged r).d = s.d := rfl
@[simp] theorem flagged_e (s : State) (r : Flagged) : (s.flagged r).e = s.e := rfl
@[simp] theorem flagged_h (s : State) (r : Flagged) : (s.flagged r).h = s.h := rfl
@[simp] theorem flagged_l (s : State) (r : Flagged) : (s.flagged r).l = s.l := rfl
@[simp] theorem flagged_fZ (s : State) (r : Flagged) : (s.flagged r).fZ = r.z := rfl
@[simp] theorem flagged_fN (s : State) (r : Flagged) : (s.flagged r).fN = r.n := rfl
@[simp] theorem flagged_fH (s : State) (r : Flagged) : (s.flagged r).fH = r.h := rfl
@[simp] theorem flagged_fC (s : State) (r : Flagged) : (s.flagged r).fC = r.c := rfl
@[simp] theorem flagged_sp (s : State) (r : Flagged) : (s.flagged r).sp = s.sp := rfl
@[simp] theorem flagged_pc (s : State) (r : Flagged) : (s.flagged r).pc = s.pc := rfl
@[simp] theorem flagged_ime (s : State) (r : Flagged) : (s.flagged r).ime = s.ime := rfl
@[simp] theorem flagged_ifr (s : State) (r : Flagged) : (s.flagged r).ifr = s.ifr := rfl
@[simp] theorem flagged_ie (s : State) (r : Flagged) : (s.flagged r).ie = s.ie := rfl
@[simp] theorem flagged_halted (s : State) (r : Flagged) : (s.flagged r).halted = s.halted := rfl
@[simp] theorem flagged_rom (s : State) (r : Flagged) : (s.flagged r).rom = s.rom := rfl
@[simp] theorem flagged_romLen (s : State) (r : Flagged) : (s.flagged r).romLen = s.romLen := rfl
@[simp] theorem flagged_hasMBC1 (s : State) (r : Flagged) : (s.flagged r).hasMBC1 = s.hasMBC1 := rfl
@[simp] theorem flagged_ram (s : State) (r : Flagged) : (s.flagged r).ram = s.ram := rfl
@[simp] theorem flagged_romBank (s : State) (r : Flagged) : (s.flagged r).romBank = s.romBank := rfl
@[simp] theorem flagged_slots (s : State) (r : Flagged) : (s.flagged r).slots = s.slots := rfl
@[simp] theorem flagged_ppu (s : State) (r : Flagged) : (s.flagged r).ppu = s.ppu := rfl
@[simp] theorem flagged_frame (s : State) (r : Flagged) : (s.flagged r).frame = s.frame := rfl
@[simp] theorem flagged_enteringVblank (s : State) (r : Flagged) : (s.flagged r).enteringVblank = s.enteringVblank := rfl
@[simp] theorem flagged_run (s : State) (r : Flagged) : (s.flagged r).run = s.run := rfl
@[simp] theorem flagged_params (s : State) (r : Flagged) : (s.flagged r).params = s.params := rfl
@[simp] theorem flagged_periphWrites (s : State) (r : Flagged) : (s.flagged r).periphWrites = s.periphWrites := rfl
@[simp] theorem flagged_agentTicks (s : State) (r : Flagged) : (s.flagged r).agentTicks = s.agentTicks := rfl
@[simp] theorem flagged_draws (s : State) (r : Flagged) : (s.flagged r).draws = s.draws := rfl

/-! ### intoA -/

@[simp] theorem intoA_a (s : State) (r : Flagged) : (s.intoA r).a = r.val := rfl
@[simp] theorem intoA_b (s : State) (r : Flagged) : (s.intoA r).b = s.b := rfl
@[simp] theorem intoA_c (s : State) (r : Flagged) : (s.intoA r).c = s.c := rfl
@[simp] theorem intoA_d (s : State) (r : Flagged) : (s.intoA r).d = s.d := rfl
@[simp] theorem intoA_e (s : State) (r : Flagged) : (s.intoA r).e = s.e := rfl
@[simp] theorem intoA_h (s : State) (r : Flagged) : (s.intoA r).h = s.h := rfl
@[simp] theorem intoA_l (s : State) (r : Flagged) : (s.intoA r).l = s.l := rfl
@[simp] theorem intoA_fZ (s : State) (r : Flagged) : (s.intoA r).fZ = r.z := rfl
@[simp] theorem intoA_fN (s : State) (r : Flagged) : (s.intoA r).fN = r.n := rfl
@[simp] theorem intoA_fH (s : State) (r : Flagged) : (s.intoA r).fH = r.h := rfl
@[simp] theorem intoA_fC (s : State) (r : Flagged) : (s.intoA r).fC = r.c := rfl
@[simp] theorem intoA_sp (s : State) (r : Flagged) : (s.intoA r).sp = s.sp := rfl
@[simp] theorem intoA_pc (s : State) (r : Flagged) : (s.intoA r).pc = s.pc := rfl
@[simp] theorem intoA_ime (s : State) (r : Flagged) : (s.intoA r).ime = s.ime := rfl
@[simp] theorem intoA_ifr (s : State) (r : Flagged) : (s.intoA r).ifr = s.ifr := rfl
@[simp] theorem intoA_ie (s : State) (r : Flagged) : (s.intoA r).ie = s.ie := rfl
@[simp] theorem intoA_halted (s : State) (r : Flagged) : (s.intoA r).halted = s.halted := rfl
@[simp] theorem intoA_rom (s : State) (r : Flagged) : (s.intoA r).rom = s.rom := rfl
@[simp] theorem intoA_romLen (s : State) (r : Flagged) : (s.intoA r).romLen = s.romLen := rfl
@[simp] theorem intoA_hasMBC1 (s : State) (r : Flagged) : (s.intoA r).hasMBC1 = s.hasMBC1 := rfl
@[simp] theorem intoA_ram (s : State) (r : Flagged) : (s.intoA r).ram = s.ram := rfl
@[simp] theorem intoA_romBank (s : State) (r : Flagged) : (s.intoA r).romBank = s.romBank := rfl
@[simp] theorem intoA_slots (s : State) (r : Flagged) : (s.intoA r).slots = s.slots := rfl
@[simp] theorem intoA_ppu (s : State) (r : Flagged) : (s.intoA r).ppu = s.ppu := rfl
@[simp] theorem intoA_frame (s : State) (r : Flagged) : (s.intoA r).frame = s.frame := rfl
@[simp] theorem intoA_enteringVblank (s : State) (r : Flagged) : (s.intoA r).enteringVblank = s.enteringVblank := rfl
@[simp] theorem intoA_run (s : State) (r : Flagged) : (s.intoA r).run = s.run := rfl
@[simp] theorem intoA_params (s : State) (r : Flagged) : (s.intoA r).params = s.params := rfl
@[simp] theorem intoA_periphWrites (s : State) (r : Flagged) : (s.intoA r).periphWrites = s.periphWrites := rfl
@[simp] theorem intoA_agentTicks (s : State) (r : Flagged) : (s.intoA r).agentTicks = s.agentTicks := rfl
@[simp] theorem intoA_draws (s : State) (r : Flagged) : (s.intoA r).draws = s.draws := rfl

/-! ### shiftFlags -/

@[simp] theorem shiftFlags_a (s : State) (r : Shifted) : (s.shiftFlags r).a = s.a := rfl
@[simp] theorem shiftFlags_b (s : State) (r : Shifted) : (s.shiftFlags r).b = s.b := rfl
@[simp] theorem shiftFlags_c (s : State) (r : Shifted) : (s.shiftFlags r).c = s.c := rfl
@[simp] theorem shiftFlags_d (s : State) (r : Shifted) : (s.shiftFlags r).d = s.d := rfl
@[simp] theorem shiftFlags_e (s : State) (r : Shifted) : (s.shiftFlags r).e = s.e := rfl
@[simp] theorem shiftFlags_h (s : State) (r : Shifted) : (s.shiftFlags r).h = s.h := rfl
@[simp] theorem shiftFlags_l (s : State) (r : Shifted) : (s.shiftFlags r).l = s.l := rfl
@[simp] theorem shiftFlags_fZ (s : State) (r : Shifted) : (s.shiftFlags r).fZ = (r.val == 0) := rfl
@[simp] theorem shiftFlags_fN (s : State) (r : Shifted) : (s.shiftFlags r).fN = false := rfl
@[simp] theorem shiftFlags_fH (s : State) (r : Shifted) : (s.shiftFlags r).fH = false := rfl
@[simp] theorem shiftFlags_fC (s : State) (r : Shifted) : (s.shiftFlags r).fC = r.out := rfl
@[simp] theorem shiftFlags_sp (s : State) (r : Shifted) : (s.shiftFlags r).sp = s.sp := rfl
@[simp] theorem shiftFlags_pc (s : State) (r : Shifted) : (s.shiftFlags r).pc = s.pc := rfl
@[simp] theorem shiftFlags_ime (s : State) (r : Shifted) : (s.shiftFlags r).ime = s.ime := rfl
@[simp] theorem shiftFlags_ifr (s : State) (r : Shifted) : (s.shiftFlags r).ifr = s.ifr := rfl
@[simp] theorem shiftFlags_ie (s : State) (r : Shifted) : (s.shiftFlags r).ie = s.ie := rfl
@[simp] theorem shiftFlags_halted (s : State) (r : Shifted) : (s.shiftFlags r).halted = s.halted := rfl
@[simp] theorem shiftFlags_rom (s : State) (r : Shifted) : (s.shiftFlags r).rom = s.rom := rfl
@[simp] theorem shiftFlags_romLen (s : State) (r : Shifted) : (s.shiftFlags r).romLen = s.romLen := rfl
@[simp] theorem shiftFlags_hasMBC1 (s : State) (r : Shifted) : (s.shiftFlags r).hasMBC1 = s.hasMBC1 := rfl
@[simp] theorem shiftFlags_ram (s : State) (r : Shifted) : (s.shiftFlags r).ram = s.ram := rfl
@[simp] theorem shiftFlags_romBank (s : State) (r : Shifted) : (s.shiftFlags r).romBank = s.romBank := rfl
@[simp] theorem shiftFlags_slots (s : State) (r : Shifted) : (s.shiftFlags r).slots = s.slots := rfl
@[simp] theorem shiftFlags_ppu (s : State) (r : Shifted) : (s.shiftFlags r).ppu = s.ppu := rfl
@[simp] theorem shiftFlags_frame (s : State) (r : Shifted) : (s.shiftFlags r).frame = s.frame := rfl
@[simp] theorem shiftFlags_enteringVblank (s : State) (r : Shifted) : (s.shiftFlags r).enteringVblank = s.enteringVblank := rfl
@[simp] theorem shiftFlags_run (s : State) (r : Shifted) : (s.shiftFlags r).run = s.run := rfl
@[simp] theorem shiftFlags_params (s : State) (r : Shifted) : (s.shiftFlags r).params = s.params := rfl
@[simp] theorem shiftFlags_periphWrites (s : State) (r : Shifted) : (s.shiftFlags r).periphWrites = s.periphWrites := rfl
@[simp] theorem shiftFlags_agentTicks (s : State) (r : Shifted) : (s.shiftFlags r).agentTicks = s.agentTicks := rfl
@[simp] theorem shiftFlags_draws (s : State) (r : Shifted) : (s.shiftFlags r).draws = s.draws := rfl

/-! ### bitFlags -/

@[simp] theorem bitFlags_a (s : State) (n : Nat) (v : Byte) : (s.bitFlags n v).a = s.a := rfl
@[simp] theorem bitFlags_b (s : State) (n : Nat) (v : Byte) : (s.bitFlags n v).b = s.b := rfl
@[simp] theorem bitFlags_c (s : State) (n : Nat) (v : Byte) : (s.bitFlags n v).c = s.c := rfl
@[simp] theorem bitFlags_d (s : State) (n : Nat) (v : Byte) : (s.bitFlags n v).d = s.d := rfl
@[simp] theorem bitFlags_e (s : State) (n : Nat) (v : Byte) : (s.bitFlags n v).e = s.e := rfl
@[simp] theorem bitFlags_h (s : State) (n : Nat) (v : Byte) : (s.bitFlags n v).h = s.h := rfl
@[simp] theorem bitFlags_l (s : State) (n : Nat) (v : Byte) : (s.bitFlags n v).l = s.l := rfl
@[simp] theorem bitFlags_fZ (s : State) (n : Nat) (v : Byte) : (s.bitFlags n v).fZ = !v.getLsbD n := rfl
@[simp] theorem bitFlags_fN (s : State) (n : Nat) (v : Byte) : (s.bitFlags n v).fN = false := rfl
@[simp] theorem bitFlags_fH (s : State) (n : Nat) (v : Byte) : (s.bitFlags n v).fH = true := rfl
@[simp] theorem bitFlags_fC (s : State) (n : Nat) (v : Byte) : (s.bitFlags n v).fC = s.fC := rfl
@[simp] theorem bitFlags_sp (s : State) (n : Nat) (v : Byte) : (s.bitFlags n v).sp = s.sp := rfl
@[simp] theorem bitFlags_pc (s : State) (n : Nat) (v : Byte) : (s.bitFlags n v).pc = s.pc := rfl
@[simp] theorem bitFlags_ime (s : State) (n : Nat) (v : Byte) : (s.bitFlags n v).ime = s.ime := rfl
@[simp] theorem bitFlags_ifr (s : State) (n : Nat) (v : Byte) : (s.bitFlags n v).ifr = s.ifr := rfl
@[simp] theorem bitFlags_ie (s : State) (n : Nat) (v : Byte) : (s.bitFlags n v).ie = s.ie := rfl
@[simp] theorem bitFlags_halted (s : State) (n : Nat) (v : Byte) : (s.bitFlags n v).halted = s.halted := rfl
@[simp] theorem bitFlags_rom (s : State) (n : Nat) (v : Byte) : (s.bitFlags n v).rom = s.rom := rfl
@[simp] theorem bitFlags_romLen (s : State) (n : Nat) (v : Byte) : (s.bitFlags n v).romLen = s.romLen := rfl
@[simp] theorem bitFlags_hasMBC1 (s : State) (n : Nat) (v : Byte) : (s.bitFlags n v).hasMBC1 = s.hasMBC1 := rfl
@[simp] theorem bitFlags_ram (s : State) (n : Nat) (v : Byte) : (s.bitFlags n v).ram = s.ram := rfl
@[simp] theorem bitFlags_romBank (s : State) (n : Nat) (v : Byte) : (s.bitFlags n v).romBank = s.romBank := rfl
@[simp] theorem bitFlags_slots (s : State) (n : Nat) (v : Byte) : (s.bitFlags n v).slots = s.slots := rfl
@[simp] theorem bitFlags_ppu (s : State) (n : Nat) (v : Byte) : (s.bitFlags n v).ppu = s.ppu := rfl
@[simp] theorem bitFlags_frame (s : State) (n : Nat) (v : Byte) : (s.bitFlags n v).frame = s.frame := rfl
@[simp] theorem bitFlags_enteringVblank (s : State) (n : Nat) (v : Byte) : (s.bitFlags n v).enteringVblank = s.enteringVblank := rfl
@[simp] theorem bitFlags_run (s : State) (n : Nat) (v : Byte) : (s.bitFlags n v).run = s.run := rfl
@[simp] theorem bitFlags_params (s : State) (n : Nat) (v : Byte) : (s.bitFlags n v).params = s.params := rfl
@[simp] theorem bitFlags_periphWrites (s : State) (n : Nat) (v : Byte) : (s.bitFlags n v).periphWrites = s.periphWrites := rfl
@[simp] theorem bitFlags_agentTicks (s : State) (n : Nat) (v : Byte) : (s.bitFlags n v).agentTicks = s.agentTicks := rfl
@[simp] theorem bitFlags_draws (s : State) (n : Nat) (v : Byte) : (s.bitFlags n v).draws = s.draws := rfl

/-! ### drawn -/

@[simp] theorem drawn_a (s : State)  : (s.drawn).a = s.a := rfl
@[simp] theorem drawn_b (s : State)  : (s.drawn).b = s.b := rfl
@[simp] theorem drawn_c (s : State)  : (s.drawn).c = s.c := rfl
@[simp] theorem drawn_d (s : State)  : (s.drawn).d = s.d := rfl
@[simp] theorem drawn_e (s : State)  : (s.drawn).e = s.e := rfl
@[simp] theorem drawn_h (s : State)  : (s.drawn).h = s.h := rfl
@[simp] theorem drawn_l (s : State)  : (s.drawn).l = s.l := rfl
@[simp] theorem drawn_fZ (s : State)  : (s.drawn).fZ = s.fZ := rfl
@[simp] theorem drawn_fN (s : State)  : (s.drawn).fN = s.fN := rfl
@[simp] theorem drawn_fH (s : State)  : (s.drawn).fH = s.fH := rfl
@[simp] theorem drawn_fC (s : State)  : (s.drawn).fC = s.fC := rfl
@[simp] theorem drawn_sp (s : State)  : (s.drawn).sp = s.sp := rfl
@[simp] theorem drawn_pc (s : State)  : (s.drawn).pc = s.pc := rfl
@[simp] theorem drawn_ime (s : State)  : (s.drawn).ime = s.ime := rfl
@[simp] theorem drawn_ifr (s : State)  : (s.drawn).ifr = s.ifr := rfl
@[simp] theorem drawn_ie (s : State)  : (s.drawn).ie = s.ie := rfl
@[simp] theorem drawn_halted (s : State)  : (s.drawn).halted = s.halted := rfl
@[simp] theorem drawn_rom (s : State)  : (s.drawn).rom = s.rom := rfl
@[simp] theorem drawn_romLen (s : State)  : (s.drawn).romLen = s.romLen := rfl
@[simp] theorem drawn_hasMBC1 (s : State)  : (s.drawn).hasMBC1 = s.hasMBC1 := rfl
@[simp] theorem drawn_ram (s : State)  : (s.drawn).ram = s.ram := rfl
@[simp] theorem drawn_romBank (s : State)  : (s.drawn).romBank = s.romBank := rfl
@[simp] theorem drawn_slots (s : State)  : (s.drawn).slots = s.slots := rfl
@[simp] theorem drawn_ppu (s : State)  : (s.drawn).ppu = s.ppu := rfl
@[simp] theorem drawn_frame (s : State)  : (s.drawn).frame = s.frame := rfl
@[simp] theorem drawn_enteringVblank (s : State)  : (s.drawn).enteringVblank = s.enteringVblank := rfl
@[simp] theorem drawn_run (s : State)  : (s.drawn).run = s.run := rfl
@[simp] theorem drawn_params (s : State)  : (s.drawn).params = s.params := rfl
@[simp] theorem drawn_periphWrites (s : State)  : (s.drawn).periphWrites = s.periphWrites := rfl
@[simp] theorem drawn_agentTicks (s : State)  : (s.drawn).agentTicks = s.agentTicks := rfl
@[simp] theorem drawn_draws (s : State)  : (s.drawn).draws = s.draws + 1 := rfl

/-! ### setPpu -/

@[simp] theorem setPpu_a (s : State) (p : Ppu) : (s.setPpu p).a = s.a := rfl
@[simp] theorem setPpu_b (s : State) (p : Ppu) : (s.setPpu p).b = s.b := rfl
@[simp] theorem setPpu_c (s : State) (p : Ppu) : (s.setPpu p).c = s.c := rfl
@[simp] theorem setPpu_d (s : State) (p : Ppu) : (s.setPpu p).d = s.d := rfl
@[simp] theorem setPpu_e (s : State) (p : Ppu) : (s.setPpu p).e = s.e := rfl
@[simp] theorem setPpu_h (s : State) (p : Ppu) : (s.setPpu p).h = s.h := rfl
@[simp] theorem setPpu_l (s : State) (p : Ppu) : (s.setPpu p).l = s.l := rfl
@[simp] theorem setPpu_fZ (s : State) (p : Ppu) : (s.setPpu p).fZ = s.fZ := rfl
@[simp] theorem setPpu_fN (s : State) (p : Ppu) : (s.setPpu p).fN = s.fN := rfl
@[simp] theorem setPpu_fH (s : State) (p : Ppu) : (s.setPpu p).fH = s.fH := rfl
@[simp] theorem setPpu_fC (s : State) (p : Ppu) : (s.setPpu p).fC = s.fC := rfl
@[simp] theorem setPpu_sp (s : State) (p : Ppu) : (s.setPpu p).sp = s.sp := rfl
@[simp] theorem setPpu_pc (s : State) (p : Ppu) : (s.setPpu p).pc = s.pc := rfl
@[simp] theorem setPpu_ime (s : State) (p : Ppu) : (s.setPpu p).ime = s.ime := rfl
@[simp] theorem setPpu_ifr (s : State) (p : Ppu) : (s.setPpu p).ifr = s.ifr := rfl
@[simp] theorem setPpu_ie (s : State) (p : Ppu) : (s.setPpu p).ie = s.ie := rfl
@[simp] theorem setPpu_halted (s : State) (p : Ppu) : (s.setPpu p).halted = s.halted := rfl
@[simp] theorem setPpu_rom (s : State) (p : Ppu) : (s.setPpu p).rom = s.rom := rfl
@[simp] theorem setPpu_romLen (s : State) (p : Ppu) : (s.setPpu p).romLen = s.romLen := rfl
@[simp] theorem setPpu_hasMBC1 (s : State) (p : Ppu) : (s.setPpu p).hasMBC1 = s.hasMBC1 := rfl
@[simp] theorem setPpu_ram (s : State) (p : Ppu) : (s.setPpu p).ram = s.ram := rfl
@[simp] theorem setPpu_romBank (s : State) (p : Ppu) : (s.setPpu p).romBank = s.romBank := rfl
@[simp] theorem setPpu_slots (s : State) (p : Ppu) : (s.setPpu p).slots = s.slots := rfl
@[simp] theorem setPpu_ppu (s : State) (p : Ppu) : (s.setPpu p).ppu = p := rfl
@[simp] theorem setPpu_frame (s : State) (p : Ppu) : (s.setPpu p).frame = s.frame := rfl
@[simp] theorem setPpu_enteringVblank (s : State) (p : Ppu) : (s.setPpu p).enteringVblank = s.enteringVblank := rfl
@[simp] theorem setPpu_run (s : State) (p : Ppu) : (s.setPpu p).run = s.run := rfl
@[simp] theorem setPpu_params (s : State) (p : Ppu) : (s.setPpu p).params = s.params := rfl
@[simp] theorem setPpu_periphWrites (s : State) (p : Ppu) : (s.setPpu p).periphWrites = s.periphWrites := rfl
@[simp] theorem setPpu_agentTicks (s : State) (p : Ppu) : (s.setPpu p).agentTicks = s.agentTicks := rfl
@[simp] theorem setPpu_draws (s : State) (p : Ppu) : (s.setPpu p).draws = s.draws := rfl

/-! ### ramWrite -/

@[simp] theorem ramWrite_a (s : State) (key : Nat) (v : Byte) : (ramWrite s key v).a = s.a := rfl
@[simp] theorem ramWrite_b (s : State) (key : Nat) (v : Byte) : (ramWrite s key v).b = s.b := rfl
@[simp] theorem ramWrite_c (s : State) (key : Nat) (v : Byte) : (ramWrite s key v).c = s.c := rfl
@[simp] theorem ramWrite_d (s : State) (key : Nat) (v : Byte) : (ramWrite s key v).d = s.d := rfl
@[simp] theorem ramWrite_e (s : State) (key : Nat) (v : Byte) : (ramWrite s key v).e = s.e := rfl
@[simp] theorem ramWrite_h (s : State) (key : Nat) (v : Byte) : (ramWrite s key v).h = s.h := rfl
@[simp] theorem ramWrite_l (s : State) (key : Nat) (v : Byte) : (ramWrite s key v).l = s.l := rfl
@[simp] theorem ramWrite_fZ (s : State) (key : Nat) (v : Byte) : (ramWrite s key v).fZ = s.fZ := rfl
@[simp] theorem ramWrite_fN (s : State) (key : Nat) (v : Byte) : (ramWrite s key v).fN = s.fN := rfl
@[simp] theorem ramWrite_fH (s : State) (key : Nat) (v : Byte) : (ramWrite s key v).fH = s.fH := rfl
@[simp] theorem ramWrite_fC (s : State) (key : Nat) (v : Byte) : (ramWrite s key v).fC = s.fC := rfl
@[simp] theorem ramWrite_sp (s : State) (key : Nat) (v : Byte) : (ramWrite s key v).sp = s.sp := rfl
@[simp] theorem ramWrite_pc (s : State) (key : Nat) (v : Byte) : (ramWrite s key v).pc = s.pc := rfl
@[simp] theorem ramWrite_ime (s : State) (key : Nat) (v : Byte) : (ramWrite s key v).ime = s.ime := rfl
@[simp] theorem ramWrite_ifr (s : State) (key : Nat) (v : Byte) : (ramWrite s key v).ifr = s.ifr := rfl
@[simp] theorem ramWrite_ie (s : State) (key : Nat) (v : Byte) : (ramWrite s key v).ie = s.ie := rfl
@[simp] theorem ramWrite_halted (s : State) (key : Nat) (v : Byte) : (ramWrite s key v).halted = s.halted := rfl
@[simp] theorem ramWrite_rom (s : State) (key : Nat) (v : Byte) : (ramWrite s key v).rom = s.rom := rfl
@[simp] theorem ramWrite_romLen (s : State) (key : Nat) (v : Byte) : (ramWrite s key v).romLen = s.romLen := rfl
@[simp] theorem ramWrite_hasMBC1 (s : State) (key : Nat) (v : Byte) : (ramWrite s key v).hasMBC1 = s.hasMBC1 := rfl
@[simp] theorem ramWrite_ram (s : State) (key : Nat) (v : Byte) : (ramWrite s key v).ram = s.ram.write key v := rfl
@[simp] theorem ramWrite_romBank (s : State) (key : Nat) (v : Byte) : (ramWrite s key v).romBank = s.romBank := rfl
@[simp] theorem ramWrite_slots (s : State) (key : Nat) (v : Byte) : (ramWrite s key v).slots = s.slots := rfl
@[simp] theorem ramWrite_ppu (s : State) (key : Nat) (v : Byte) : (ramWrite s key v).ppu = s.ppu := rfl
@[simp] theorem ramWrite_frame (s : State) (key : Nat) (v : Byte) : (ramWrite s key v).frame = s.frame := rfl
@[simp] theorem ramWrite_enteringVblank (s : State) (key : Nat) (v : Byte) : (ramWrite s key v).enteringVblank = s.enteringVblank := rfl
@[simp] theorem ramWrite_run (s : State) (key : Nat) (v : Byte) : (ramWrite s key v).run = s.run := rfl
@[simp] theorem ramWrite_params (s : State) (key : Nat) (v : Byte) : (ramWrite s key v).params = s.params := rfl
@[simp] theorem ramWrite_periphWrites (s : State) (key : Nat) (v : Byte) : (ramWrite s key v).periphWrites = s.periphWrites := rfl
@[simp] theorem ramWrite_agentTicks (s : State) (key : Nat) (v : Byte) : (ramWrite s key v).agentTicks = s.agentTicks := rfl
@[simp] theorem ramWrite_draws (s : State) (key : Nat) (v : Byte) : (ramWrite s key v).draws = s.draws := rfl

/-! ### requestInterrupt -/

@[simp] theorem requestInterrupt_a (s : State) (k : Nat) : (requestInterrupt k s).a = s.a := rfl
@[simp] theorem requestInterrupt_b (s : State) (k : Nat) : (requestInterrupt k s).b = s.b := rfl
@[simp] theorem requestInterrupt_c (s : State) (k : Nat) : (requestInterrupt k s).c = s.c := rfl
@[simp] theorem requestInterrupt_d (s : State) (k : Nat) : (requestInterrupt k s).d = s.d := rfl
@[simp] theorem requestInterrupt_e (s : State) (k : Nat) : (requestInterrupt k s).e = s.e := rfl
@[simp] theorem requestInterrupt_h (s : State) (k : Nat) : (requestInterrupt k s).h = s.h := rfl
@[simp] theorem requestInterrupt_l (s : State) (k : Nat) : (requestInterrupt k s).l = s.l := rfl
@[simp] theorem requestInterrupt_fZ (s : State) (k : Nat) : (requestInterrupt k s).fZ = s.fZ := rfl
@[simp] theorem requestInterrupt_fN (s : State) (k : Nat) : (requestInterrupt k s).fN = s.fN := rfl
@[simp] theorem requestInterrupt_fH (s : State) (k : Nat) : (requestInterrupt k s).fH = s.fH := rfl
@[simp] theorem requestInterrupt_fC (s : State) (k : Nat) : (requestInterrupt k s).fC = s.fC := rfl
@[simp] theorem requestInterrupt_sp (s : State) (k : Nat) : (requestInterrupt k s).sp = s.sp := rfl
@[simp] theorem requestInterrupt_pc (s : State) (k : Nat) : (requestInterrupt k s).pc = s.pc := rfl
@[simp] theorem requestInterrupt_ime (s : State) (k : Nat) : (requestInterrupt k s).ime = s.ime := rfl
@[simp] theorem requestInterrupt_ifr (s : State) (k : Nat) : (requestInterrupt k s).ifr = s.ifr ||| bitMask k := rfl
@[simp] theorem requestInterrupt_ie (s : State) (k : Nat) : (requestInterrupt k s).ie = s.ie := rfl
@[simp] theorem requestInterrupt_halted (s : State) (k : Nat) : (requestInterrupt k s).halted = s.halted := rfl
@[simp] theorem requestInterrupt_rom (s : State) (k : Nat) : (requestInterrupt k s).rom = s.rom := rfl
@[simp] theorem requestInterrupt_romLen (s : State) (k : Nat) : (requestInterrupt k s).romLen = s.romLen := rfl
@[simp] theorem requestInterrupt_hasMBC1 (s : State) (k : Nat) : (requestInterrupt k s).hasMBC1 = s.hasMBC1 := rfl
@[simp] theorem requestInterrupt_ram (s : State) (k : Nat) : (requestInterrupt k s).ram = s.ram := rfl
@[simp] theorem requestInterrupt_romBank (s : State) (k : Nat) : (requestInterrupt k s).romBank = s.romBank := rfl
@[simp] theorem requestInterrupt_slots (s : State) (k : Nat) : (requestInterrupt k s).slots = s.slots := rfl
@[simp] theorem requestInterrupt_ppu (s : State) (k : Nat) : (requestInterrupt k s).ppu = s.ppu := rfl
@[simp] theorem requestInterrupt_frame (s : State) (k : Nat) : (requestInterrupt k s).frame = s.frame := rfl
@[simp] theorem requestInterrupt_enteringVblank (s : State) (k : Nat) : (requestInterrupt k s).enteringVblank = s.enteringVblank := rfl
@[simp] theorem requestInterrupt_run (s : State) (k : Nat) : (requestInterrupt k s).run = s.run := rfl
@[simp] theorem requestInterrupt_params (s : State) (k : Nat) : (requestInterrupt k s).params = s.params := rfl
@[simp] theorem requestInterrupt_periphWrites (s : State) (k : Nat) : (requestInterrupt k s).periphWrites = s.periphWrites := rfl
@[simp] theorem requestInterrupt_agentTicks (s : State) (k : Nat) : (requestInterrupt k s).agentTicks = s.agentTicks := rfl
@[simp] theorem requestInterrupt_draws (s : State) (k : Nat) : (requestInterrupt k s).draws = s.draws := rfl

/-! ### raiseStop -/

@[simp] theorem raiseStop_a (s : State) (r : StopReason) : (raiseStop r s).a = s.a := rfl
@[simp] theorem raiseStop_b (s : State) (r : StopReason) : (raiseStop r s).b = s.b := rfl
@[simp] theorem raiseStop_c (s : State) (r : StopReason) : (raiseStop r s).c = s.c := rfl
@[simp] theorem raiseStop_d (s : State) (r : StopReason) : (raiseStop r s).d = s.d := rfl
@[simp] theorem raiseStop_e (s : State) (r : StopReason) : (raiseStop r s).e = s.e := rfl
@[simp] theorem raiseStop_h (s : State) (r : StopReason) : (raiseStop r s).h = s.h := rfl
@[simp] theorem raiseStop_l (s : State) (r : StopReason) : (raiseStop r s).l = s.l := rfl
@[simp] theorem raiseStop_fZ (s : State) (r : StopReason) : (raiseStop r s).fZ = s.fZ := rfl
@[simp] theorem raiseStop_fN (s : State) (r : StopReason) : (raiseStop r s).fN = s.fN := rfl
@[simp] theorem raiseStop_fH (s : State) (r : StopReason) : (raiseStop r s).fH = s.fH := rfl
@[simp] theorem raiseStop_fC (s : State) (r : StopReason) : (raiseStop r s).fC = s.fC := rfl
@[simp] theorem raiseStop_sp (s : State) (r : StopReason) : (raiseStop r s).sp = s.sp := rfl
@[simp] theorem raiseStop_pc (s : State) (r : StopReason) : (raiseStop r s).pc = s.pc := rfl
@[simp] theorem raiseStop_ime (s : State) (r : StopReason) : (raiseStop r s).ime = s.ime := rfl
@[simp] theorem raiseStop_ifr (s : State) (r : StopReason) : (raiseStop r s).ifr = s.ifr := rfl
@[simp] theorem raiseStop_ie (s : State) (r : StopReason) : (raiseStop r s).ie = s.ie := rfl
@[simp] theorem raiseStop_halted (s : State) (r : StopReason) : (raiseStop r s).halted = s.halted := rfl
@[simp] theorem raiseStop_rom (s : State) (r : StopReason) : (raiseStop r s).rom = s.rom := rfl
@[simp] theorem raiseStop_romLen (s : State) (r : StopReason) : (raiseStop r s).romLen = s.romLen := rfl
@[simp] theorem raiseStop_hasMBC1 (s : State) (r : StopReason) : (raiseStop r s).hasMBC1 = s.hasMBC1 := rfl
@[simp] theorem raiseStop_ram (s : State) (r : StopReason) : (raiseStop r s).ram = s.ram := rfl
@[simp] theorem raiseStop_romBank (s : State) (r : StopReason) : (raiseStop r s).romBank = s.romBank := rfl
@[simp] theorem raiseStop_slots (s : State) (r : StopReason) : (raiseStop r s).slots = s.slots := rfl
@[simp] theorem raiseStop_ppu (s : State) (r : StopReason) : (raiseStop r s).ppu = s.ppu := rfl
@[simp] theorem raiseStop_frame (s : State) (r : StopReason) : (raiseStop r s).frame = s.frame := rfl
@[simp] theorem raiseStop_enteringVblank (s : State) (r : StopReason) : (raiseStop r s).enteringVblank = s.enteringVblank := rfl
@[simp] theorem raiseStop_run (s : State) (r : StopReason) : (raiseStop r s).run = .stopped r := rfl
@[simp] theorem raiseStop_params (s : State) (r : StopReason) : (raiseStop r s).params = s.params := rfl
@[simp] theorem raiseStop_periphWrites (s : State) (r : StopReason) : (raiseStop r s).periphWrites = s.periphWrites := rfl
@[simp] theorem raiseStop_agentTicks (s : State) (r : StopReason) : (raiseStop r s).agentTicks = s.agentTicks := rfl
@[simp] theorem raiseStop_draws (s : State) (r : StopReason) : (raiseStop r s).draws = s.draws := rfl

/-! ### renderLine -/

@[simp] theorem renderLine_a (s : State) (ly : Nat) : (renderLine s ly).a = s.a := rfl
@[simp] theorem renderLine_b (s : State) (ly : Nat) : (renderLine s ly).b = s.b := rfl
@[simp] theorem renderLine_c (s : State) (ly : Nat) : (renderLine s ly).c = s.c := rfl
@[simp] theorem renderLine_d (s : State) (ly : Nat) : (renderLine s ly).d = s.d := rfl
@[simp] theorem renderLine_e (s : State) (ly : Nat) : (renderLine s ly).e = s.e := rfl
@[simp] theorem renderLine_h (s : State) (ly : Nat) : (renderLine s ly).h = s.h := rfl
@[simp] theorem renderLine_l (s : State) (ly : Nat) : (renderLine s ly).l = s.l := rfl
@[simp] theorem renderLine_fZ (s : State) (ly : Nat) : (renderLine s ly).fZ = s.fZ := rfl
@[simp] theorem renderLine_fN (s : State) (ly : Nat) : (renderLine s ly).fN = s.fN := rfl
@[simp] theorem renderLine_fH (s : State) (ly : Nat) : (renderLine s ly).fH = s.fH := rfl
@[simp] theorem renderLine_fC (s : State) (ly : Nat) : (renderLine s ly).fC = s.fC := rfl
@[simp] theorem renderLine_sp (s : State) (ly : Nat) : (renderLine s ly).sp = s.sp := rfl
@[simp] theorem renderLine_pc (s : State) (ly : Nat) : (renderLine s ly).pc = s.pc := rfl
@[simp] theorem renderLine_ime (s : State) (ly : Nat) : (renderLine s ly).ime = s.ime := rfl
@[simp] theorem renderLine_ifr (s : State) (ly : Nat) : (renderLine s ly).ifr = s.ifr := rfl
@[simp] theorem renderLine_ie (s : State) (ly : Nat) : (renderLine s ly).ie = s.ie := rfl
@[simp] theorem renderLine_halted (s : State) (ly : Nat) : (renderLine s ly).halted = s.halted := rfl
@[simp] theorem renderLine_rom (s : State) (ly : Nat) : (renderLine s ly).rom = s.rom := rfl
@[simp] theorem renderLine_romLen (s : State) (ly : Nat) : (renderLine s ly).romLen = s.romLen := rfl
@[simp] theorem renderLine_hasMBC1 (s : State) (ly : Nat) : (renderLine s ly).hasMBC1 = s.hasMBC1 := rfl
@[simp] theorem renderLine_ram (s : State) (ly : Nat) : (renderLine s ly).ram = s.ram := rfl
@[simp] theorem renderLine_romBank (s : State) (ly : Nat) : (renderLine s ly).romBank = s.romBank := rfl
@[simp] theorem renderLine_slots (s : State) (ly : Nat) : (renderLine s ly).slots = s.slots := rfl
@[simp] theorem renderLine_ppu (s : State) (ly : Nat) : (renderLine s ly).ppu = s.ppu := rfl
@[simp] theorem renderLine_frame (s : State) (ly : Nat) : (renderLine s ly).frame = s.frame.writeRow (4 * (160 * ly)) ((lineShades s ly).flatMap (pixelBytes s.params)) := rfl
@[simp] theorem renderLine_enteringVblank (s : State) (ly : Nat) : (renderLine s ly).enteringVblank = s.enteringVblank := rfl
@[simp] theorem renderLine_run (s : State) (ly : Nat) : (renderLine s ly).run = s.run := rfl
@[simp] theorem renderLine_params (s : State) (ly : Nat) : (renderLine s ly).params = s.params := rfl
@[simp] theorem renderLine_periphWrites (s : State) (ly : Nat) : (renderLine s ly).periphWrites = s.periphWrites := rfl
@[simp] theorem renderLine_agentTicks (s : State) (ly : Nat) : (renderLine s ly).agentTicks = s.agentTicks := rfl
@[simp] theorem renderLine_draws (s : State) (ly : Nat) : (renderLine s ly).draws = s.draws := rfl

/-! ### setR8 -/

@[simp] theorem setR8_fZ (s : State) (r : R8) (v : Byte) : (s.setR8 r v).fZ = s.fZ := by cases r <;> rfl
@[simp] theorem setR8_fN (s : State) (r : R8) (v : Byte) : (s.setR8 r v).fN = s.fN := by cases r <;> rfl
@[simp] theorem setR8_fH (s : State) (r : R8) (v : Byte) : (s.setR8 r v).fH = s.fH := by cases r <;> rfl
@[simp] theorem setR8_fC (s : State) (r : R8) (v : Byte) : (s.setR8 r v).fC = s.fC := by cases r <;> rfl
@[simp] theorem setR8_sp (s : State) (r : R8) (v : Byte) : (s.setR8 r v).sp = s.sp := by cases r <;> rfl
@[simp] theorem setR8_pc (s : State) (r : R8) (v : Byte) : (s.setR8 r v).pc = s.pc := by cases r <;> rfl
@[simp] theorem setR8_ime (s : State) (r : R8) (v : Byte) : (s.setR8 r v).ime = s.ime := by cases r <;> rfl
@[simp] theorem setR8_ifr (s : State) (r : R8) (v : Byte) : (s.setR8 r v).ifr = s.ifr := by cases r <;> rfl
@[simp] theorem setR8_ie (s : State) (r : R8) (v : Byte) : (s.setR8 r v).ie = s.ie := by cases r <;> rfl
@[simp] theorem setR8_halted (s : State) (r : R8) (v : Byte) : (s.setR8 r v).halted = s.halted := by cases r <;> rfl
@[simp] theorem setR8_rom (s : State) (r : R8) (v : Byte) : (s.setR8 r v).rom = s.rom := by cases r <;> rfl
@[simp] theorem setR8_romLen (s : State) (r : R8) (v : Byte) : (s.setR8 r v).romLen = s.romLen := by cases r <;> rfl
@[simp] theorem setR8_hasMBC1 (s : State) (r : R8) (v : Byte) : (s.setR8 r v).hasMBC1 = s.hasMBC1 := by cases r <;> rfl
@[simp] theorem setR8_ram (s : State) (r : R8) (v : Byte) : (s.setR8 r v).ram = s.ram := by cases r <;> rfl
@[simp] theorem setR8_romBank (s : State) (r : R8) (v : Byte) : (s.setR8 r v).romBank = s.romBank := by cases r <;> rfl
@[simp] theorem setR8_slots (s : State) (r : R8) (v : Byte) : (s.setR8 r v).slots = s.slots := by cases r <;> rfl
@[simp] theorem setR8_ppu (s : State) (r : R8) (v : Byte) : (s.setR8 r v).ppu = s.ppu := by cases r <;> rfl
@[simp] theorem setR8_frame (s : State) (r : R8) (v : Byte) : (s.setR8 r v).frame = s.frame := by cases r <;> rfl
@[simp] theorem setR8_enteringVblank (s : State) (r : R8) (v : Byte) : (s.setR8 r v).enteringVblank = s.enteringVblank := by cases r <;> rfl
@[simp] theorem setR8_run (s : State) (r : R8) (v : Byte) : (s.setR8 r v).run = s.run := by cases r <;> rfl
@[simp] theorem setR8_params (s : State) (r : R8) (v : Byte) : (s.setR8 r v).params = s.params := by cases r <;> rfl
@[simp] theorem setR8_periphWrites (s : State) (r : R8) (v : Byte) : (s.setR8 r v).periphWrites = s.periphWrites := by cases r <;> rfl
@[simp] theorem setR8_agentTicks (s : State) (r : R8) (v : Byte) : (s.setR8 r v).agentTicks = s.agentTicks := by cases r <;> rfl
@[simp] theorem setR8_draws (s : State) (r : R8) (v : Byte) : (s.setR8 r v).draws = s.draws := by cases r <;> rfl

/-! ### setRP -/

@[simp] theorem setRP_a (s : State) (p : RP) (v : Word) : (s.setRP p v).a = s.a := by cases p <;> rfl
@[simp] theorem setRP_fZ (s : State) (p : RP) (v : Word) : (s.setRP p v).fZ = s.fZ := by cases p <;> rfl
@[simp] theorem setRP_fN (s : State) (p : RP) (v : Word) : (s.setRP p v).fN = s.fN := by cases p <;> rfl
@[simp] theorem setRP_fH (s : State) (p : RP) (v : Word) : (s.setRP p v).fH = s.fH := by cases p <;> rfl
@[simp] theorem setRP_fC (s : State) (p : RP) (v : Word) : (s.setRP p v).fC = s.fC := by cases p <;> rfl
@[simp] theorem setRP_pc (s : State) (p : RP) (v : Word) : (s.setRP p v).pc = s.pc := by cases p <;> rfl
@[simp] theorem setRP_ime (s : State) (p : RP) (v : Word) : (s.setRP p v).ime = s.ime := by cases p <;> rfl
@[simp] theorem setRP_ifr (s : State) (p : RP) (v : Word) : (s.setRP p v).ifr = s.ifr := by cases p <;> rfl
@[simp] theorem setRP_ie (s : State) (p : RP) (v : Word) : (s.setRP p v).ie = s.ie := by cases p <;> rfl
@[simp] theorem setRP_halted (s : State) (p : RP) (v : Word) : (s.setRP p v).halted = s.halted := by cases p <;> rfl
@[simp] theorem setRP_rom (s : State) (p : RP) (v : Word) : (s.setRP p v).rom = s.rom := by cases p <;> rfl
@[simp] theorem setRP_romLen (s : State) (p : RP) (v : Word) : (s.setRP p v).romLen = s.romLen := by cases p <;> rfl
@[simp] theorem setRP_hasMBC1 (s : State) (p : RP) (v : Word) : (s.setRP p v).hasMBC1 = s.hasMBC1 := by cases p <;> rfl
@[simp] theorem setRP_ram (s : State) (p : RP) (v : Word) : (s.setRP p v).ram = s.ram := by cases p <;> rfl
@[simp] theorem setRP_romBank (s : State) (p : RP) (v : Word) : (s.setRP p v).romBank = s.romBank := by cases p <;> rfl
@[simp] theorem setRP_slots (s : State) (p : RP) (v : Word) : (s.setRP p v).slots = s.slots := by cases p <;> rfl
@[simp] theorem setRP_ppu (s : State) (p : RP) (v : Word) : (s.setRP p v).ppu = s.ppu := by cases p <;> rfl
@[simp] theorem setRP_frame (s : State) (p : RP) (v : Word) : (s.setRP p v).frame = s.frame := by cases p <;> rfl
@[simp] theorem setRP_enteringVblank (s : State) (p : RP) (v : Word) : (s.setRP p v).enteringVblank = s.enteringVblank := by cases p <;> rfl
@[simp] theorem setRP_run (s : State) (p : RP) (v : Word) : (s.setRP p v).run = s.run := by cases p <;> rfl
@[simp] theorem setRP_params (s : State) (p : RP) (v : Word) : (s.setRP p v).params = s.params := by cases p <;> rfl
@[simp] theorem setRP_periphWrites (s : State) (p : RP) (v : Word) : (s.setRP p v).periphWrites = s.periphWrites := by cases p <;> rfl
@[simp] theorem setRP_agentTicks (s : State) (p : RP) (v : Word) : (s.setRP p v).agentTicks = s.agentTicks := by cases p <;> rfl
@[simp] theorem setRP_draws (s : State) (p : RP) (v : Word) : (s.setRP p v).draws = s.draws := by cases p <;> rfl

/-! ### setRP2 -/

@[simp] theorem setRP2_sp (s : State) (p : RP2) (v : Word) : (s.setRP2 p v).sp = s.sp := by cases p <;> rfl
@[simp] theorem setRP2_pc (s : State) (p : RP2) (v : Word) : (s.setRP2 p v).pc = s.pc := by cases p <;> rfl
@[simp] theorem setRP2_ime (s : State) (p : RP2) (v : Word) : (s.setRP2 p v).ime = s.ime := by cases p <;> rfl
@[simp] theorem setRP2_ifr (s : State) (p : RP2) (v : Word) : (s.setRP2 p v).ifr = s.ifr := by cases p <;> rfl
@[simp] theorem setRP2_ie (s : State) (p : RP2) (v : Word) : (s.setRP2 p v).ie = s.ie := by cases p <;> rfl
@[simp] theorem setRP2_halted (s : State) (p : RP2) (v : Word) : (s.setRP2 p v).halted = s.halted := by cases p <;> rfl
@[simp] theorem setRP2_rom (s : State) (p : RP2) (v : Word) : (s.setRP2 p v).rom = s.rom := by cases p <;> rfl
@[simp] theorem setRP2_romLen (s : State) (p : RP2) (v : Word) : (s.setRP2 p v).romLen = s.romLen := by cases p <;> rfl
@[simp] theorem setRP2_hasMBC1 (s : State) (p : RP2) (v : Word) : (s.setRP2 p v).hasMBC1 = s.hasMBC1 := by cases p <;> rfl
@[simp] theorem setRP2_ram (s : State) (p : RP2) (v : Word) : (s.setRP2 p v).ram = s.ram := by cases p <;> rfl
@[simp] theorem setRP2_romBank (s : State) (p : RP2) (v : Word) : (s.setRP2 p v).romBank = s.romBank := by cases p <;> rfl
@[simp] theorem setRP2_slots (s : State) (p : RP2) (v : Word) : (s.setRP2 p v).slots = s.slots := by cases p <;> rfl
@[simp] theorem setRP2_ppu (s : State) (p : RP2) (v : Word) : (s.setRP2 p v).ppu = s.ppu := by cases p <;> rfl
@[simp] theorem setRP2_frame (s : State) (p : RP2) (v : Word) : (s.setRP2 p v).frame = s.frame := by cases p <;> rfl
@[simp] theorem setRP2_enteringVblank (s : State) (p : RP2) (v : Word) : (s.setRP2 p v).enteringVblank = s.enteringVblank := by cases p <;> rfl
@[simp] theorem setRP2_run (s : State) (p : RP2) (v : Word) : (s.setRP2 p v).run = s.run := by cases p <;> rfl
@[simp] theorem setRP2_params (s : State) (p : RP2) (v : Word) : (s.setRP2 p v).params = s.params := by cases p <;> rfl
@[simp] theorem setRP2_periphWrites (s : State) (p : RP2) (v : Word) : (s.setRP2 p v).periphWrites = s.periphWrites := by cases p <;> rfl
@[simp] theorem setRP2_agentTicks (s : State) (p : RP2) (v : Word) : (s.setRP2 p v).agentTicks = s.agentTicks := by cases p <;> rfl
@[simp] theorem setRP2_draws (s : State) (p : RP2) (v : Word) : (s.setRP2 p v).draws = s.draws := by cases p <;> rfl

end Sys2Proof.Machine
end

