-- ==== Sys2Proof/Laws/Access.lean ====
section
/-! SUPPORT. What chained accesses do, and once for each shared access everything it can do: a read changes only the draw
counter, a write changes only storage, and both complete exactly where they may. -/

namespace Sys2Proof.Machine

open Sys2Proof

/-! ### Chains -/

@[simp] theorem andThen_ok {α β : Type} (v : α) (s : State) (f : α → State → Access β) :
    (Access.ok v s).andThen f = f v s := rfl
@[simp] theorem andThen_fault {α β : Type} (r : Fault) (f : α → State → Access β) :
    (Access.fault r : Access α).andThen f = .fault r := rfl
@[simp] theorem finish_ok {α σ : Type} (v : α) (s : State) (f : α → State → Host.Outcome σ Fault Refusal) :
    (Access.ok v s).finish f = f v s := rfl
@[simp] theorem finish_fault {α σ : Type} (r : Fault) (f : α → State → Host.Outcome σ Fault Refusal) :
    (Access.fault r : Access α).finish f = .fault r := rfl
@[simp] theorem value_ok {α : Type} (v : α) (s : State) : (Access.ok v s).value = some v := rfl
@[simp] theorem value_fault {α : Type} (r : Fault) : (Access.fault r : Access α).value = none := rfl

/-- A chain that completes is two accesses that complete. -/
theorem andThen_eq_ok {α β : Type} {x : Access α} {f : α → State → Access β} {w : β} {t : State} :
    x.andThen f = .ok w t ↔ ∃ v s, x = .ok v s ∧ f v s = .ok w t := by
  cases x <;> simp

/-- A meaning that gives a next state had its access complete. -/
theorem finish_eq_next {α σ : Type} {x : Access α} {f : α → State → Host.Outcome σ Fault Refusal} {t : σ} :
    x.finish f = .next t ↔ ∃ v s, x = .ok v s ∧ f v s = .next t := by
  cases x <;> simp

/-- A meaning that faults had its access fault, or faulted after it. -/
theorem finish_eq_fault {α σ : Type} {x : Access α} {f : α → State → Host.Outcome σ Fault Refusal} {r : Fault} :
    x.finish f = .fault r ↔ x = .fault r ∨ ∃ v s, x = .ok v s ∧ f v s = .fault r := by
  cases x <;> simp

theorem andThen_eq_fault {α β : Type} {x : Access α} {f : α → State → Access β} {r : Fault} :
    x.andThen f = .fault r ↔ x = .fault r ∨ ∃ v s, x = .ok v s ∧ f v s = .fault r := by
  cases x <;> simp

/-! ### What a read can do -/

theorem SameButDraws.refl (s : State) : SameButDraws s s := rfl

theorem SameButDraws.trans {s t u : State} (h1 : SameButDraws s t) (h2 : SameButDraws t u) : SameButDraws s u := by
  unfold SameButDraws at *
  rw [h2, h1]

theorem handlerRead_ok {h : Handler} {slot : Slot} {s t : State} {v : Byte} (e : handlerRead h slot s = .ok v t) :
    SameButDraws s t := by
  cases h <;> simp only [handlerRead, Access.ok.injEq] at e <;> obtain ⟨-, rfl⟩ := e <;> rfl

theorem slotRead_ok {slot : Slot} {s t : State} {v : Byte} (e : slotRead s slot = .ok v t) : SameButDraws s t := by
  unfold slotRead at e
  split at e
  · split at e
    · exact handlerRead_ok e
    · cases e; rfl
  · split at e
    · cases e
    · cases e; rfl

/-- A completed read changes nothing but the draw counter. -/
theorem readByte_ok {s t : State} {addr : Word} {v : Byte} (e : readByte s addr = .ok v t) : SameButDraws s t := by
  unfold readByte romRead at e
  split at e <;> first | exact slotRead_ok e | (split at e <;> cases e <;> rfl) | (cases e; rfl)

/-- The slot read completes exactly if the slot is not an empty IE slot. -/
theorem slotRead_completes (s : State) (slot : Slot) :
    (∃ v t, slotRead s slot = .ok v t) ↔ (slot = .ie → s.registered .ie = true) := by
  unfold slotRead State.registered
  cases hl : lookupSlot s.slots slot with
  | some e =>
    constructor
    · rintro - rfl; simp [hl]
    · intro _
      obtain ⟨_, _, rd, _⟩ := e
      cases rd with
      | none => exact ⟨_, _, rfl⟩
      | some h => cases h <;> exact ⟨_, _, rfl⟩
  | none =>
    by_cases hs : slot = .ie
    · subst hs; simp [hl]
    · simp [hs]

/-- A read completes exactly where `readable` says. -/
theorem readByte_completes (s : State) (addr : Word) :
    (∃ v t, readByte s addr = .ok v t) ↔ s.readable addr = true := by
  unfold readByte State.readable romRead
  split <;> rename_i hr <;> simp only [hr]
  all_goals first
    | (rw [slotRead_completes]; simp)
    | (split <;> simp_all)
    | simp

/-! ### What a write can do -/

theorem SameButStorage.refl (s : State) : SameButStorage s s := rfl

theorem SameButStorage.trans {s t u : State} (h1 : SameButStorage s t) (h2 : SameButStorage t u) :
    SameButStorage s u := by
  unfold SameButStorage at *
  rw [h2, h1]

theorem handlerWrite_same (h : Handler) (slot : Slot) (v : Byte) (s : State) :
    SameButStorage s (handlerWrite h slot v s) := by
  cases h <;> rfl

theorem slotWrite_ok {slot : Slot} {s t : State} {v : Byte} (e : slotWrite s slot v = .ok () t) : SameButStorage s t := by
  unfold slotWrite at e
  split at e
  · split at e
    · cases e; exact handlerWrite_same _ _ _ _
    · cases e; rfl
  · split at e
    · cases e
    · cases e; rfl

theorem bankControl_same (s : State) (addr : Word) (v : Byte) : SameButStorage s (bankControl s addr v) := by
  unfold bankControl
  split <;> rfl

/-- A completed write changes nothing but storage. -/
theorem writeByte_ok {s t : State} {addr : Word} {v : Byte} (e : writeByte s addr v = .ok () t) :
    SameButStorage s t := by
  unfold writeByte at e
  split at e <;>
    first
      | exact slotWrite_ok e
      | (cases e; exact bankControl_same _ _ _)
      | (cases e; rfl)

/-- The slot write completes exactly if the slot is not an empty IE slot. -/
theorem slotWrite_completes (s : State) (slot : Slot) (v : Byte) :
    (∃ t, slotWrite s slot v = .ok () t) ↔ (slot = .ie → s.registered .ie = true) := by
  unfold slotWrite State.registered
  cases hl : lookupSlot s.slots slot with
  | some e =>
    constructor
    · rintro - rfl; simp [hl]
    · intro _
      obtain ⟨_, _, _, wr⟩ := e
      cases wr <;> exact ⟨_, rfl⟩
  | none =>
    by_cases hs : slot = .ie
    · subst hs; simp [hl]
    · simp [hs]

/-- A write completes exactly where `writable` says. -/
theorem writeByte_completes (s : State) (addr : Word) (v : Byte) :
    (∃ t, writeByte s addr v = .ok () t) ↔ s.writable addr = true := by
  unfold writeByte State.writable
  split <;> rename_i hr <;> simp only [hr]
  all_goals first
    | (rw [slotWrite_completes]; simp)
    | simp

/-! ### Where accesses may complete does not change under them -/

theorem readable_of_sameButDraws {s t : State} (h : SameButDraws s t) (addr : Word) :
    t.readable addr = s.readable addr := by
  rw [h]; rfl

theorem writable_of_sameButDraws {s t : State} (h : SameButDraws s t) (addr : Word) :
    t.writable addr = s.writable addr := by
  rw [h]; rfl

theorem writable_of_sameButStorage {s t : State} (h : SameButStorage s t) (addr : Word) :
    t.writable addr = s.writable addr := by
  rw [h]; rfl

end Sys2Proof.Machine
end

