-- ==== Sys2Proof/Laws/Operands.lean ====
section
/-! SUPPORT. The laws of bytes and words, of the register operands and of F. -/

namespace Sys2Proof

theorem toNat_wordOf (hi lo : Byte) : (wordOf hi lo).toNat = hi.toNat * 256 + lo.toNat := by
  unfold wordOf
  rw [BitVec.toNat_append, Nat.shiftLeft_eq, Nat.mul_comm, ← Nat.two_pow_add_eq_or_of_lt lo.isLt]

theorem toNat_loByte (v : Word) : (loByte v).toNat = v.toNat % 256 := by
  simp [loByte, BitVec.extractLsb'_toNat]

theorem toNat_hiByte (v : Word) : (hiByte v).toNat = v.toNat / 256 := by
  have := v.isLt
  simp [hiByte, BitVec.extractLsb'_toNat, Nat.shiftRight_eq_div_pow]
  omega

@[simp] theorem hiByte_wordOf (hi lo : Byte) : hiByte (wordOf hi lo) = hi := by
  apply BitVec.eq_of_toNat_eq
  rw [toNat_hiByte, toNat_wordOf]
  omega

@[simp] theorem loByte_wordOf (hi lo : Byte) : loByte (wordOf hi lo) = lo := by
  apply BitVec.eq_of_toNat_eq
  rw [toNat_loByte, toNat_wordOf]
  omega

@[simp] theorem wordOf_hiByte_loByte (v : Word) : wordOf (hiByte v) (loByte v) = v := by
  apply BitVec.eq_of_toNat_eq
  rw [toNat_wordOf, toNat_hiByte, toNat_loByte]
  omega

end Sys2Proof

namespace Sys2Proof.Machine

open Sys2Proof

/-- A register written reads as the value, the other registers as before. -/
theorem r8_setR8 (s : State) (r q : R8) (v : Byte) : (s.setR8 r v).r8 q = if q = r then v else s.r8 q := by
  cases r <;> cases q <;> rfl

@[simp] theorem r8_setR8_same (s : State) (r : R8) (v : Byte) : (s.setR8 r v).r8 r = v := by
  simp [r8_setR8]

/-- Writing back what a register holds changes nothing. -/
@[simp] theorem setR8_r8 (s : State) (r : R8) : s.setR8 r (s.r8 r) = s := by
  cases r <;> rfl

/-- A pair written reads as the value. -/
@[simp] theorem rp_setRP_same (s : State) (p : RP) (v : Word) : (s.setRP p v).rp p = v := by
  cases p <;> simp [State.setRP, State.rp, State.bc, State.de, State.hl, State.setBC, State.setDE, State.setHL,
    State.setSP]

/-- The bits of F. -/
theorem f_toNat (s : State) :
    s.f.toNat = s.fZ.toNat * 128 + s.fN.toNat * 64 + s.fH.toNat * 32 + s.fC.toNat * 16 := by
  unfold State.f
  cases s.fZ <;> cases s.fN <;> cases s.fH <;> cases s.fC <;> rfl

end Sys2Proof.Machine
end

