-- ==== Sys2Proof/Laws/Ops.lean ====
section
/-! SUPPORT. Once for each shared operation over memory and the stack everything it can do, and the laws of what a read gives
after a write. -/

namespace Sys2Proof.Machine

open Sys2Proof

/-! ### Words -/

/-- A completed word read is two completed byte reads, low address first, that change only the draw counter. -/
theorem readWord_ok {s t : State} {addr v : Word} (e : readWord s addr = .ok v t) :
    ∃ lo hi s1, readByte s addr = .ok lo s1 ∧ readByte s1 (addr + 1) = .ok hi t ∧ v = wordOf hi lo ∧ SameButDraws s t := by
  unfold readWord at e
  obtain ⟨lo, s1, h1, e⟩ := andThen_eq_ok.1 e
  obtain ⟨hi, s2, h2, e⟩ := andThen_eq_ok.1 e
  cases e
  exact ⟨lo, hi, s1, h1, h2, rfl, (readByte_ok h1).trans (readByte_ok h2)⟩

/-- A word read completes exactly where both bytes are readable. -/
theorem readWord_completes (s : State) (addr : Word) :
    (∃ v t, readWord s addr = .ok v t) ↔ s.readable addr = true ∧ s.readable (addr + 1) = true := by
  constructor
  · rintro ⟨v, t, e⟩
    obtain ⟨lo, hi, s1, h1, h2, -, -⟩ := readWord_ok e
    refine ⟨(readByte_completes _ _).1 ⟨_, _, h1⟩, ?_⟩
    rw [← readable_of_sameButDraws (readByte_ok h1)]
    exact (readByte_completes _ _).1 ⟨_, _, h2⟩
  · rintro ⟨ha, hb⟩
    obtain ⟨lo, s1, h1⟩ := (readByte_completes _ _).2 ha
    rw [← readable_of_sameButDraws (readByte_ok h1)] at hb
    obtain ⟨hi, s2, h2⟩ := (readByte_completes _ _).2 hb
    exact ⟨wordOf hi lo, s2, by unfold readWord; rw [h1, andThen_ok, h2, andThen_ok]⟩

/-- A completed word write is two completed byte writes, low address first, that change only storage. -/
theorem writeWord_ok {s t : State} {addr v : Word} (e : writeWord s addr v = .ok () t) :
    ∃ s1, writeByte s addr (loByte v) = .ok () s1 ∧ writeByte s1 (addr + 1) (hiByte v) = .ok () t ∧
      SameButStorage s t := by
  unfold writeWord at e
  obtain ⟨⟨⟩, s1, h1, e⟩ := andThen_eq_ok.1 e
  exact ⟨s1, h1, e, (writeByte_ok h1).trans (writeByte_ok e)⟩

/-- A word write completes exactly where both bytes are writable. -/
theorem writeWord_completes (s : State) (addr v : Word) :
    (∃ t, writeWord s addr v = .ok () t) ↔ s.writable addr = true ∧ s.writable (addr + 1) = true := by
  constructor
  · rintro ⟨t, e⟩
    obtain ⟨s1, h1, h2, -⟩ := writeWord_ok e
    refine ⟨(writeByte_completes _ _ _).1 ⟨_, h1⟩, ?_⟩
    rw [← writable_of_sameButStorage (writeByte_ok h1)]
    exact (writeByte_completes _ _ _).1 ⟨_, h2⟩
  · rintro ⟨ha, hb⟩
    obtain ⟨s1, h1⟩ := (writeByte_completes s addr (loByte v)).2 ha
    rw [← writable_of_sameButStorage (writeByte_ok h1)] at hb
    obtain ⟨s2, h2⟩ := (writeByte_completes s1 (addr + 1) (hiByte v)).2 hb
    exact ⟨s2, by unfold writeWord; rw [h1, andThen_ok, h2]⟩

/-! ### Fetch, push and pop -/

/-- A fetch reads at pc and moves pc on by one. -/
theorem fetch8_ok {s t : State} {v : Byte} (e : fetch8 s = .ok v t) :
    ∃ s1, readByte s s.pc = .ok v s1 ∧ SameButDraws s s1 ∧ t = s1.setPC (s.pc + 1) := by
  unfold fetch8 at e
  obtain ⟨w, s1, h1, e⟩ := andThen_eq_ok.1 e
  cases e
  refine ⟨s1, h1, readByte_ok h1, ?_⟩
  rw [show s1.pc = s.pc from by rw [readByte_ok h1]]

/-- A completed pop reads the word at SP and moves SP up by two. -/
theorem pop16_ok {s t : State} {v : Word} (e : pop16 s = .ok v t) :
    ∃ s1, readWord s s.sp = .ok v s1 ∧ SameButDraws s s1 ∧ t = s1.setSP (s.sp + 2) := by
  unfold pop16 at e
  obtain ⟨w, s1, h1, e⟩ := andThen_eq_ok.1 e
  cases e
  obtain ⟨_, _, _, _, _, _, hs⟩ := readWord_ok h1
  exact ⟨s1, h1, hs, by rw [show s1.sp = s.sp from by rw [hs]]⟩

/-- A completed push moves SP down by two and writes the word there. -/
theorem push16_ok {s t : State} {v : Word} (e : push16 s v = .ok () t) :
    writeWord (s.setSP (s.sp - 2)) (s.sp - 2) v = .ok () t ∧ SameButStorage (s.setSP (s.sp - 2)) t := by
  obtain ⟨_, _, _, h⟩ := writeWord_ok e
  exact ⟨e, h⟩

/-- A push completes exactly where both bytes of the new top are writable. -/
theorem push16_completes (s : State) (v : Word) :
    (∃ t, push16 s v = .ok () t) ↔ s.writable (s.sp - 2) = true ∧ s.writable (s.sp - 2 + 1) = true :=
  writeWord_completes _ _ _

/-- A pop completes exactly where both bytes at SP are readable. -/
theorem pop16_completes (s : State) :
    (∃ v t, pop16 s = .ok v t) ↔ s.readable s.sp = true ∧ s.readable (s.sp + 1) = true := by
  rw [← readWord_completes]
  constructor
  · rintro ⟨v, t, e⟩
    obtain ⟨s1, h, -, -⟩ := pop16_ok e
    exact ⟨_, _, h⟩
  · rintro ⟨v, s1, h⟩
    exact ⟨v, s1.setSP (s1.sp + 2), by simp [pop16, h]⟩

/-! ### The regions -/

/-- The bounds of each region (20_memory.md R201). -/
def Region.bounds : Region → Nat × Nat
  | .romFixed => (0, 0x4000)
  | .romBanked => (0x4000, 0x8000)
  | .vram => (0x8000, 0xA000)
  | .extRam => (0xA000, 0xC000)
  | .wram0 => (0xC000, 0xD000)
  | .wram1 => (0xD000, 0xE000)
  | .echo => (0xE000, 0xFE00)
  | .oam => (0xFE00, 0xFEA0)
  | .gap => (0xFEA0, 0xFF00)
  | .io => (0xFF00, 0xFF80)
  | .hram => (0xFF80, 0xFFFF)
  | .ieSlot => (0xFFFF, 0x10000)

theorem regionOf_bounds (n : Nat) (h : n < 0x10000) (r : Region)
    (e : (if n < 0x4000 then Region.romFixed else if n < 0x8000 then .romBanked else if n < 0xA000 then .vram
      else if n < 0xC000 then .extRam else if n < 0xD000 then .wram0 else if n < 0xE000 then .wram1
      else if n < 0xFE00 then .echo else if n < 0xFEA0 then .oam else if n < 0xFF00 then .gap
      else if n < 0xFF80 then .io else if n < 0xFFFF then .hram else .ieSlot) = r) :
    r.bounds.1 ≤ n ∧ n < r.bounds.2 := by
  by_cases h1 : n < 0x4000; · rw [if_pos h1] at e; subst e; exact ⟨Nat.zero_le _, h1⟩
  rw [if_neg h1] at e
  by_cases h2 : n < 0x8000; · rw [if_pos h2] at e; subst e; exact ⟨Nat.le_of_not_lt h1, h2⟩
  rw [if_neg h2] at e
  by_cases h3 : n < 0xA000; · rw [if_pos h3] at e; subst e; exact ⟨Nat.le_of_not_lt h2, h3⟩
  rw [if_neg h3] at e
  by_cases h4 : n < 0xC000; · rw [if_pos h4] at e; subst e; exact ⟨Nat.le_of_not_lt h3, h4⟩
  rw [if_neg h4] at e
  by_cases h5 : n < 0xD000; · rw [if_pos h5] at e; subst e; exact ⟨Nat.le_of_not_lt h4, h5⟩
  rw [if_neg h5] at e
  by_cases h6 : n < 0xE000; · rw [if_pos h6] at e; subst e; exact ⟨Nat.le_of_not_lt h5, h6⟩
  rw [if_neg h6] at e
  by_cases h7 : n < 0xFE00; · rw [if_pos h7] at e; subst e; exact ⟨Nat.le_of_not_lt h6, h7⟩
  rw [if_neg h7] at e
  by_cases h8 : n < 0xFEA0; · rw [if_pos h8] at e; subst e; exact ⟨Nat.le_of_not_lt h7, h8⟩
  rw [if_neg h8] at e
  by_cases h9 : n < 0xFF00; · rw [if_pos h9] at e; subst e; exact ⟨Nat.le_of_not_lt h8, h9⟩
  rw [if_neg h9] at e
  by_cases h10 : n < 0xFF80; · rw [if_pos h10] at e; subst e; exact ⟨Nat.le_of_not_lt h9, h10⟩
  rw [if_neg h10] at e
  by_cases h11 : n < 0xFFFF; · rw [if_pos h11] at e; subst e; exact ⟨Nat.le_of_not_lt h10, h11⟩
  rw [if_neg h11] at e; subst e; exact ⟨Nat.le_of_not_lt h11, h⟩

/-- An address lies within the bounds of its region. -/
theorem region_bounds {addr : Word} {r : Region} (h : region addr = r) : r.bounds.1 ≤ addr.toNat ∧ addr.toNat < r.bounds.2 :=
  regionOf_bounds addr.toNat addr.isLt r h

/-- An address within the bounds of a region lies in it. -/
theorem region_of {addr : Word} (r : Region) (h1 : r.bounds.1 ≤ addr.toNat) (h2 : addr.toNat < r.bounds.2) :
    region addr = r := by
  have hb := region_bounds (addr := addr) rfl
  cases hr : region addr <;> rw [hr] at hb <;> cases r <;> simp only [Region.bounds] at hb h1 h2 <;> first | rfl | omega

/-- An echo address names the working RAM byte 0x2000 lower (20_memory.md R205). -/
theorem region_of_echo {addr : Word} (h : region addr = .echo) :
    (region (addr - 0x2000) = .wram0 ∨ region (addr - 0x2000) = .wram1) ∧ (addr - 0x2000).toNat = addr.toNat - 0x2000 := by
  have hb := region_bounds h
  simp only [Region.bounds] at hb
  have e : (addr - 0x2000).toNat = addr.toNat - 0x2000 := by
    rw [BitVec.toNat_sub]
    simp
    omega
  refine ⟨?_, e⟩
  by_cases h' : addr.toNat - 0x2000 < 0xD000
  · exact .inl (region_of .wram0 (by rw [e]; simp [Region.bounds]; omega) (by rw [e]; exact h'))
  · exact .inr (region_of .wram1 (by rw [e]; exact Nat.le_of_not_lt h') (by rw [e]; simp [Region.bounds]; omega))

/-! ### The value of a read -/

/-- A slot's value depends only on the slot table, the registers behind it and the draw counter. -/
theorem slotRead_value_congr {s t : State} (h1 : t.slots = s.slots) (h2 : t.ifr = s.ifr) (h3 : t.ie = s.ie)
    (h4 : t.ppu = s.ppu) (h5 : t.draws = s.draws) (slot : Slot) : (slotRead t slot).value = (slotRead s slot).value := by
  unfold slotRead
  rw [h1]
  split
  · split
    · rename_i h _
      cases h <;> simp only [handlerRead, value_ok, h2, h3, h4, h5]
    · rfl
  · split <;> rfl

/-- A read's value depends only on the memories and on what a slot's value depends on. -/
theorem peek_congr {s t : State} (hr : t.rom = s.rom) (hl : t.romLen = s.romLen) (hb : t.romBank = s.romBank)
    (hm : t.ram = s.ram) (h1 : t.slots = s.slots) (h2 : t.ifr = s.ifr) (h3 : t.ie = s.ie) (h4 : t.ppu = s.ppu)
    (h5 : t.draws = s.draws) (addr : Word) : t.peek addr = s.peek addr := by
  have ho : romOffset t addr = romOffset s addr := by unfold romOffset; rw [hb]
  have hs := slotRead_value_congr h1 h2 h3 h4 h5
  unfold State.peek readByte
  cases region addr <;> simp only [ho, hm, hs, value_ok, romRead, hr, hl]
  all_goals (split <;> rfl)

/-! ### The invariant under a write -/

theorem bankOf_bounds (v : Byte) : 1 ≤ bankOf v ∧ bankOf v ≤ 31 := by
  unfold bankOf
  have : (v &&& 0x1F).toNat ≤ 31 := by
    rw [BitVec.toNat_and]; exact Nat.and_le_right
  omega

/-- Writing one existing byte of RAM keeps the invariant. -/
theorem ramWrite_inv {s : State} (hs : s.Inv) (key : Nat) (v : Byte) (hk : isStorage key = true) :
    (ramWrite s key v).Inv :=
  { hs with
    ram_wf := Memory.wf_write hs.ram_wf key v
    ram_keys := by
      intro cell hc
      rcases Memory.mem_write hc with ⟨rfl, _⟩ | ⟨h, _⟩
      · exact hk
      · exact hs.ram_keys cell h }

/-- A register's write callback keeps the invariant. -/
theorem handlerWrite_inv {s : State} (hs : s.Inv) (h : Handler) (slot : Slot) (v : Byte) :
    (handlerWrite h slot v s).Inv := by
  cases h <;> simp only [handlerWrite] <;> try exact { hs with }
  exact { hs with
    line := by simp [Ppu.writeLY]
    vblank := by simp [Ppu.writeLY]
    counter := by simpa [Ppu.writeLY] using hs.budgets .oamSearch }

theorem slotWrite_inv {s t : State} (hs : s.Inv) {slot : Slot} {v : Byte} (e : slotWrite s slot v = .ok () t) :
    t.Inv := by
  unfold slotWrite at e
  split at e
  · split at e
    · cases e; exact handlerWrite_inv hs _ _ _
    · cases e; exact hs
  · split at e
    · cases e
    · cases e; exact hs

/-- A completed write keeps the invariant. -/
theorem writeByte_inv {s t : State} (hs : s.Inv) {addr : Word} {v : Byte} (e : writeByte s addr v = .ok () t) :
    t.Inv := by
  unfold writeByte at e
  split at e <;> rename_i hr <;> have hb := region_bounds hr <;> simp only [Region.bounds] at hb
  case h_10 => exact slotWrite_inv hs e
  case h_12 => exact slotWrite_inv hs e
  case h_1 => cases e; unfold bankControl; split; exacts [{ hs with bank := bankOf_bounds v }, hs]
  case h_2 => cases e; unfold bankControl; split; exacts [{ hs with bank := bankOf_bounds v }, hs]
  case h_9 => cases e; exact hs
  all_goals (cases e; exact ramWrite_inv hs _ _ (by simp [isStorage]; omega))

/-- A state that differs in draws only meets the invariant too. -/
theorem inv_of_sameButDraws {s t : State} (hs : s.Inv) (h : SameButDraws s t) : t.Inv := by
  rw [h]; exact { hs with }

/-! ### Taking an interrupt -/

/-- Everything taking an interrupt can do: the pending bit and IME cleared, pc pushed, pc at the vector, awake. -/
theorem takeInterrupt_ok {s t : State} (e : takeInterrupt s = .ok () t) :
    ∃ s1, push16 { s with ifr := s.ifr &&& ~~~bitMask (lowestPending (pendingEnabled s)), ime := false } s.pc = .ok () s1 ∧
      t = { s1 with pc := interruptVector (lowestPending (pendingEnabled s)), halted := false } := by
  unfold takeInterrupt at e
  obtain ⟨⟨⟩, s1, h, e⟩ := andThen_eq_ok.1 e
  cases e
  exact ⟨s1, h, rfl⟩

/-- Everything the return from an interrupt can do: pc popped, IME set. -/
theorem returnFromInterrupt_ok {s t : State} (e : returnFromInterrupt s = .ok () t) :
    ∃ v s1, pop16 s = .ok v s1 ∧ t = { s1 with pc := v, ime := true } := by
  unfold returnFromInterrupt at e
  obtain ⟨v, s1, h, e⟩ := andThen_eq_ok.1 e
  cases e
  exact ⟨v, s1, h, rfl⟩

end Sys2Proof.Machine
end

