-- ==== Sys2Proof/Laws/Agents.lean ====
section
/-! SUPPORT. Everything the external agents' ticks can do: only storage, IF, the draw counter and the oracle's own queue change. -/

namespace Sys2Proof.Machine

open Sys2Proof

/-- `t` differs from `s` at most in what reads and writes through the address space change. -/
def SameButAccesses (s t : State) : Prop :=
  t = { s with romBank := t.romBank, ram := t.ram, ifr := t.ifr, ie := t.ie, ppu := t.ppu, periphWrites := t.periphWrites,
               draws := t.draws }

theorem SameButAccesses.refl (s : State) : SameButAccesses s s := rfl

theorem SameButAccesses.trans {s t u : State} (h1 : SameButAccesses s t) (h2 : SameButAccesses t u) : SameButAccesses s u := by
  unfold SameButAccesses at *
  rw [h2, h1]

theorem SameButDraws.toAccesses {s t : State} (h : SameButDraws s t) : SameButAccesses s t := by
  unfold SameButAccesses; rw [h]

theorem SameButStorage.toAccesses {s t : State} (h : SameButStorage s t) : SameButAccesses s t := by
  unfold SameButAccesses; rw [h]

theorem requestIf_same (b : Bool) (k : Nat) (s : State) : SameButAccesses s (requestIf b k s) := by
  cases b <;> rfl

theorem dmaStep_ok {op : DmaOp} {s t : State} (e : dmaStep op s = .ok () t) : SameButAccesses s t := by
  cases op with
  | read src =>
    obtain ⟨v, s1, h, e⟩ := andThen_eq_ok.1 e
    cases e
    exact (readByte_ok h).toAccesses
  | write i v => exact (writeByte_ok e).toAccesses
  | copy src i =>
    obtain ⟨v, s1, h, e⟩ := andThen_eq_ok.1 e
    exact (readByte_ok h).toAccesses.trans (writeByte_ok e).toAccesses

theorem keypadTick_same (t : AgentTicks) (s : State) : SameButAccesses s (keypadTick t s) :=
  (requestIf_same _ _ _).trans (requestIf_same _ _ _)

theorem timerTick_same (t : AgentTicks) (s : State) : SameButAccesses s (timerTick t s) :=
  (requestIf_same _ _ _).trans (requestIf_same _ _ _)

theorem dmaRun_ok {ops : List DmaOp} {s t : State} (e : dmaRun ops s = .ok () t) : SameButAccesses s t := by
  induction ops generalizing s with
  | nil => cases e; exact SameButAccesses.refl _
  | cons op rest ih =>
    obtain ⟨⟨⟩, s1, h, e⟩ := andThen_eq_ok.1 e
    exact (dmaStep_ok h).trans (ih e)

theorem dmaTick_ok {a : AgentTicks} {s t : State} (e : dmaTick a s = .ok () t) : SameButAccesses s t := by
  obtain ⟨⟨⟩, s1, h, e⟩ := andThen_eq_ok.1 e
  cases e
  exact (dmaRun_ok h).trans (requestIf_same _ _ _)

/-- The agents' ticks change only what accesses change, and use up one entry of the oracle's queue and the recorded writes. -/
theorem agentsTick_ok {s t : State} (e : agentsTick s = .ok () t) :
    ∃ u, SameButAccesses s u ∧ t = { u with agentTicks := s.agentTicks.drop 1, periphWrites := [] } := by
  obtain ⟨⟨⟩, s1, h, e⟩ := andThen_eq_ok.1 e
  cases e
  exact ⟨_, ((keypadTick_same _ _).trans (dmaTick_ok h)).trans (timerTick_same _ _), rfl⟩

/-- Idle agents only use up the recorded writes. -/
theorem agentsTick_idle (s : State) (h : s.agentTicks = []) : agentsTick s = .ok () { s with periphWrites := [] } := by
  have hn : nextAgentTicks s = AgentTicks.idle := by unfold nextAgentTicks; rw [h]; rfl
  unfold agentsTick
  rw [hn]
  show Access.ok () { s with agentTicks := s.agentTicks.drop 1, periphWrites := [] } = _
  rw [h, List.drop_nil, ← h]

end Sys2Proof.Machine
end

