-- ==== Sys2Proof/Laws/Decode.lean ====
section
/-! SUPPORT. The two opcode tables have an entry for every byte, so their defaults are never read. -/

namespace Sys2Proof

theorem baseTable_length : baseTable.length = 16 := rfl

theorem baseTable_rows : ∀ row ∈ baseTable, row.length = 16 := by
  intro row h
  simp only [baseTable, List.mem_cons, List.not_mem_nil, or_false] at h
  rcases h with rfl | rfl | rfl | rfl | rfl | rfl | rfl | rfl | rfl | rfl | rfl | rfl | rfl | rfl | rfl | rfl <;> rfl

theorem cbTable_length : cbTable.length = 16 := rfl

theorem cbTable_rows : ∀ row ∈ cbTable, row.length = 16 := by
  intro row h
  simp only [cbTable, List.mem_cons, List.not_mem_nil, or_false] at h
  rcases h with rfl | rfl | rfl | rfl | rfl | rfl | rfl | rfl | rfl | rfl | rfl | rfl | rfl | rfl | rfl | rfl <;> rfl

/-- The cell of the base table that a byte selects exists (30_encoding.md R309). -/
theorem baseDescriptor_cell (op : Byte) :
    ∃ row, baseTable[op.toNat / 16]? = some row ∧ row[op.toNat % 16]? = some (baseDescriptor op) := by
  have hop := op.isLt
  have h1 : op.toNat / 16 < baseTable.length := by rw [baseTable_length]; omega
  have hr := baseTable_rows _ (List.getElem_mem h1)
  have h2 : op.toNat % 16 < (baseTable[op.toNat / 16]'h1).length := by rw [hr]; omega
  refine ⟨baseTable[op.toNat / 16]'h1, List.getElem?_eq_getElem h1, ?_⟩
  rw [List.getElem?_eq_getElem h2]
  simp only [baseDescriptor, List.getD_eq_getElem?_getD, List.getElem?_eq_getElem h1, Option.getD_some,
    List.getElem?_eq_getElem h2]

/-- The cell of the CB table that a byte selects exists (30_encoding.md R310). -/
theorem cbInstr_cell (sub : Byte) :
    ∃ row, cbTable[sub.toNat / 16]? = some row ∧ row[sub.toNat % 16]? = some (cbInstr sub) := by
  have hop := sub.isLt
  have h1 : sub.toNat / 16 < cbTable.length := by rw [cbTable_length]; omega
  have hr := cbTable_rows _ (List.getElem_mem h1)
  have h2 : sub.toNat % 16 < (cbTable[sub.toNat / 16]'h1).length := by rw [hr]; omega
  refine ⟨cbTable[sub.toNat / 16]'h1, List.getElem?_eq_getElem h1, ?_⟩
  rw [List.getElem?_eq_getElem h2]
  simp only [cbInstr, List.getD_eq_getElem?_getD, List.getElem?_eq_getElem h1, Option.getD_some,
    List.getElem?_eq_getElem h2]

/-- The bytes of an instruction by its shape: the opcode with no, one or two immediate bytes, or 0xCB and a sub-opcode, each
with the table entry it comes from (30_encoding.md R300, R301, R308). -/
inductive EncodedAs (i : Instr) : List Byte → Prop where
  | op (b : Byte) : b ≠ 0xCB → baseDescriptor b = .op i → EncodedAs i [b]
  | n8 (b n : Byte) (f : Byte → Instr) : b ≠ 0xCB → baseDescriptor b = .n8 f → f n = i → EncodedAs i [b, n]
  | n16 (b : Byte) (nn : Word) (f : Word → Instr) : b ≠ 0xCB → baseDescriptor b = .n16 f → f nn = i →
      EncodedAs i [b, loByte nn, hiByte nn]
  | cb (sub : Byte) : cbInstr sub = i → EncodedAs i [0xCB, sub]

/-- Every well-formed instruction's bytes have one of the four shapes. -/
theorem encodedAs_encode (i : Instr) (h : i.wf = true) : EncodedAs i (encode i) := by
  cases i <;>
    first
      | exact .op _ (by decide) rfl
      | exact .n8 _ _ _ (by decide) rfl rfl
      | exact .n16 _ _ _ (by decide) rfl rfl
      | exact .cb _ rfl
      | cases h

/-- What the base table decodes, resolved, is what decoding gives. -/
theorem decode_of_decodeBase {bytes rest : List Byte} {i : Instr} (h : decodeBase bytes = .ok (i, rest)) :
    decode bytes = .ok (resolvePrefix i, rest) := by
  unfold decode; rw [h]

end Sys2Proof
end

