-- ==== Sys2Proof/Laws/Forms.lean ====
section
/-! SUPPORT. What `exec` of each operand form is, in terms of the shared operation it runs: one lemma per form, so that no
later proof goes through the constructors. -/

namespace Sys2Proof.Machine

open Sys2Proof

theorem exec_ldR (dst src : R8) (s : State) : exec (.ldR dst src) s = loadReg dst src s := by
  cases dst <;> cases src <;> rfl
theorem exec_ldN (dst : R8) (n : Byte) (s : State) : exec (.ldN dst n) s = loadImm dst n s := by cases dst <;> rfl
theorem exec_ldFromHL (dst : R8) (s : State) : exec (.ldFromHL dst) s = loadByte dst s.hl s := by cases dst <;> rfl
theorem exec_ldToHL (src : R8) (s : State) : exec (.ldToHL src) s = storeByte s.hl (s.r8 src) s := by cases src <;> rfl
theorem exec_ldRP (p : RP) (v : Word) (s : State) : exec (.ldRP p v) s = loadPair p v s := by cases p <;> rfl
theorem exec_push (p : RP2) (s : State) : exec (.push p) s = pushPair p s := by cases p <;> rfl
theorem exec_pop (p : RP2) (s : State) : exec (.pop p) s = popPair p s := by cases p <;> rfl

/-- The operation on A and the flags that an ALU field names (30_encoding.md R306). -/
def aluEffect : AluOp → Byte → State → State
  | .add => addA
  | .adc => adcA
  | .sub => subA
  | .sbc => sbcA
  | .and => andA
  | .xor => xorA
  | .or => orA
  | .cp => cpA

theorem exec_aluR (op : AluOp) (r : R8) (s : State) : exec (.aluR op r) s = .next (aluEffect op (s.r8 r) s) := by
  cases op <;> cases r <;> rfl
theorem exec_aluN (op : AluOp) (n : Byte) (s : State) : exec (.aluN op n) s = .next (aluEffect op n s) := by
  cases op <;> rfl
theorem exec_aluHL (op : AluOp) (s : State) : exec (.aluHL op) s = withHL (aluEffect op) s := by cases op <;> rfl
theorem exec_incR (r : R8) (s : State) : exec (.incR r) s = modifyReg inc8 r s := by cases r <;> rfl
theorem exec_decR (r : R8) (s : State) : exec (.decR r) s = modifyReg dec8 r s := by cases r <;> rfl
theorem exec_addHL (p : RP) (s : State) : exec (.addHL p) s = addToHL p s := by cases p <;> rfl
theorem exec_incRP (p : RP) (s : State) : exec (.incRP p) s = stepPair p 1 s := by cases p <;> rfl
theorem exec_decRP (p : RP) (s : State) : exec (.decRP p) s = stepPair p (-1) s := by cases p <;> rfl
theorem exec_rotR (op : RotOp) (r : R8) (s : State) : exec (.rotR op r) s = shiftReg op r s := by
  cases op <;> cases r <;> rfl
theorem exec_rotHL (op : RotOp) (s : State) : exec (.rotHL op) s = shiftHL op s := by cases op <;> rfl
theorem exec_bitR (b : BitNo) (r : R8) (s : State) : exec (.bitR b r) s = testBitReg b.toNat r s := by
  cases b <;> cases r <;> rfl
theorem exec_bitHL (b : BitNo) (s : State) : exec (.bitHL b) s = testBitHL b.toNat s := by cases b <;> rfl
theorem exec_resR (b : BitNo) (r : R8) (s : State) : exec (.resR b r) s = resetBitReg b.toNat r s := by
  cases b <;> cases r <;> rfl
theorem exec_resHL (b : BitNo) (s : State) : exec (.resHL b) s = resetBitHL b.toNat s := by cases b <;> rfl
theorem exec_setR (b : BitNo) (r : R8) (s : State) : exec (.setR b r) s = setBitReg b.toNat r s := by
  cases b <;> cases r <;> rfl
theorem exec_setHL (b : BitNo) (s : State) : exec (.setHL b) s = setBitHL b.toNat s := by cases b <;> rfl
theorem exec_jpCond (cc : Cond) (nn : Word) (s : State) : exec (.jpCond cc nn) s = jumpIf cc nn s := by cases cc <;> rfl
theorem exec_jrCond (cc : Cond) (e : Byte) (s : State) : exec (.jrCond cc e) s = jumpRelativeIf cc e s := by
  cases cc <;> rfl
theorem exec_callCond (cc : Cond) (nn : Word) (s : State) : exec (.callCond cc nn) s = callIf cc nn s := by
  cases cc <;> rfl
theorem exec_retCond (cc : Cond) (s : State) : exec (.retCond cc) s = returnIf cc s := by cases cc <;> rfl
theorem exec_rst (t : RstNo) (s : State) : exec (.rst t) s = restart t s := by cases t <;> rfl

/-- The condition the machine tests is the one the encoding names (30_encoding.md R305, 40_step.md R416). -/
theorem cond_iff (cc : Cond) (s : State) : s.cond cc = true ↔ condHolds cc s := by
  cases cc <;> simp [State.cond, condHolds]

end Sys2Proof.Machine
end

