-- ==== Sys2Proof/Laws/Exec.lean ====
section
/-! SUPPORT. Once for every instruction everything `exec` can leave unchanged: the ROM image, the slot table, the pixel buffer,
the parameters, the oracle's queue; and that it keeps the invariant. -/

namespace Sys2Proof.Machine

open Sys2Proof

/-- `t` is reached from `s` by register changes and accesses: the configuration, the pixel buffer, the report and the oracle's
queue are the same, and the invariant is kept. -/
structure Runs (s t : State) : Prop where
  same : t = { t with rom := s.rom, romLen := s.romLen, hasMBC1 := s.hasMBC1, slots := s.slots, frame := s.frame,
                      enteringVblank := s.enteringVblank, params := s.params, agentTicks := s.agentTicks }
  inv : s.Inv → t.Inv

theorem Runs.trans {s t u : State} (h1 : Runs s t) (h2 : Runs t u) : Runs s u where
  same := by rw [h2.same, h1.same]
  inv h := h2.inv (h1.inv h)

/-- Changes of CPU registers, flags, mode and run status alone. -/
theorem Runs.registers {s t : State}
    (h : t = { s with a := t.a, b := t.b, c := t.c, d := t.d, e := t.e, h := t.h, l := t.l, fZ := t.fZ, fN := t.fN,
                      fH := t.fH, fC := t.fC, sp := t.sp, pc := t.pc, ime := t.ime, halted := t.halted, run := t.run }) :
    Runs s t where
  same := by rw [h]
  inv hs := by rw [h]; exact { hs with }

theorem Runs.refl (s : State) : Runs s s := .registers rfl

theorem Runs.setR8 (s : State) (r : R8) (v : Byte) : Runs s (s.setR8 r v) := .registers (by cases r <;> rfl)
theorem Runs.setRP (s : State) (p : RP) (v : Word) : Runs s (s.setRP p v) := .registers (by cases p <;> rfl)
theorem Runs.setRP2 (s : State) (p : RP2) (v : Word) : Runs s (s.setRP2 p v) := .registers (by cases p <;> rfl)

theorem Runs.read {s t : State} {addr : Word} {v : Byte} (e : readByte s addr = .ok v t) : Runs s t where
  same := by rw [readByte_ok e]
  inv hs := inv_of_sameButDraws hs (readByte_ok e)

theorem Runs.write {s t : State} {addr : Word} {v : Byte} (e : writeByte s addr v = .ok () t) : Runs s t where
  same := by rw [writeByte_ok e]
  inv hs := writeByte_inv hs e

theorem Runs.writeWord {s t : State} {addr v : Word} (e : writeWord s addr v = .ok () t) : Runs s t := by
  obtain ⟨s1, h1, h2, -⟩ := writeWord_ok e
  exact (Runs.write h1).trans (Runs.write h2)

theorem Runs.push {s t : State} {v : Word} (e : push16 s v = .ok () t) : Runs s t :=
  (Runs.registers (t := s.setSP (s.sp - 2)) rfl).trans (Runs.writeWord (push16_ok e).1)

theorem Runs.pop {s t : State} {v : Word} (e : pop16 s = .ok v t) : Runs s t := by
  obtain ⟨s1, h, -, rfl⟩ := pop16_ok e
  obtain ⟨lo, hi, s2, h1, h2, -, -⟩ := readWord_ok h
  exact ((Runs.read h1).trans (Runs.read h2)).trans (.registers rfl)

/-! ### The shared operations of the meanings -/

theorem loadByte_runs {r : R8} {addr : Word} {s t : State} (e : loadByte r addr s = .next t) : Runs s t := by
  obtain ⟨v, s1, h, e⟩ := finish_eq_next.1 e
  cases e
  exact (Runs.read h).trans (.setR8 _ _ _)

theorem storeByte_runs {addr : Word} {v : Byte} {s t : State} (e : storeByte addr v s = .next t) : Runs s t := by
  obtain ⟨⟨⟩, s1, h, e⟩ := finish_eq_next.1 e
  cases e
  exact Runs.write h

theorem storeAndStep_runs {delta : Word} {s t : State} (e : storeAndStep delta s = .next t) : Runs s t := by
  obtain ⟨⟨⟩, s1, h, e⟩ := finish_eq_next.1 e
  cases e
  exact (Runs.write h).trans (.registers rfl)

theorem loadAndStep_runs {delta : Word} {s t : State} (e : loadAndStep delta s = .next t) : Runs s t := by
  obtain ⟨v, s1, h, e⟩ := finish_eq_next.1 e
  cases e
  exact (Runs.read h).trans (.registers rfl)

theorem stepPair_runs {p : RP} {delta : Word} {s t : State} (e : stepPair p delta s = .next t) : Runs s t := by
  cases e
  exact Runs.setRP _ _ _

theorem storeSP_runs {addr : Word} {s t : State} (e : storeSP addr s = .next t) : Runs s t := by
  obtain ⟨⟨⟩, s1, h, e⟩ := finish_eq_next.1 e
  cases e
  exact Runs.writeWord h

theorem pushPair_runs {p : RP2} {s t : State} (e : pushPair p s = .next t) : Runs s t := by
  obtain ⟨⟨⟩, s1, h, e⟩ := finish_eq_next.1 e
  cases e
  exact Runs.push h

theorem popPair_runs {p : RP2} {s t : State} (e : popPair p s = .next t) : Runs s t := by
  obtain ⟨v, s1, h, e⟩ := finish_eq_next.1 e
  cases e
  exact (Runs.pop h).trans (.setRP2 _ _ _)

theorem aluEffect_runs (op : AluOp) (x : Byte) (s : State) : Runs s (aluEffect op x s) :=
  .registers (by cases op <;> rfl)

theorem withHL_runs {op : AluOp} {s t : State} (e : withHL (aluEffect op) s = .next t) : Runs s t := by
  obtain ⟨v, s1, h, e⟩ := finish_eq_next.1 e
  cases e
  exact (Runs.read h).trans (aluEffect_runs _ _ _)

theorem modifyReg_runs {f : Byte → Bool → Flagged} {r : R8} {s t : State} (e : modifyReg f r s = .next t) : Runs s t := by
  cases e
  exact (Runs.setR8 _ _ _).trans (.registers rfl)

theorem modifyHL_runs {f : Byte → Bool → Flagged} {s t : State} (e : modifyHL f s = .next t) : Runs s t := by
  obtain ⟨v, s1, h1, e⟩ := finish_eq_next.1 e
  obtain ⟨⟨⟩, s2, h2, e⟩ := finish_eq_next.1 e
  cases e
  exact ((Runs.read h1).trans (Runs.write h2)).trans (.registers rfl)

theorem shiftReg_runs {op : RotOp} {r : R8} {s t : State} (e : shiftReg op r s = .next t) : Runs s t := by
  cases e
  exact (Runs.setR8 _ _ _).trans (.registers rfl)

theorem shiftHL_runs {op : RotOp} {s t : State} (e : shiftHL op s = .next t) : Runs s t := by
  obtain ⟨v, s1, h1, e⟩ := finish_eq_next.1 e
  obtain ⟨⟨⟩, s2, h2, e⟩ := finish_eq_next.1 e
  cases e
  exact ((Runs.read h1).trans (Runs.write h2)).trans (.registers rfl)

theorem testBitHL_runs {n : Nat} {s t : State} (e : testBitHL n s = .next t) : Runs s t := by
  obtain ⟨v, s1, h, e⟩ := finish_eq_next.1 e
  cases e
  exact (Runs.read h).trans (.registers rfl)

theorem changeReg_runs {f : Byte → Byte} {r : R8} {s t : State} (e : changeReg f r s = .next t) : Runs s t := by
  cases e
  exact Runs.setR8 _ _ _

theorem changeHL_runs {f : Byte → Byte} {s t : State} (e : changeHL f s = .next t) : Runs s t := by
  obtain ⟨v, s1, h1, e⟩ := finish_eq_next.1 e
  obtain ⟨⟨⟩, s2, h2, e⟩ := finish_eq_next.1 e
  cases e
  exact (Runs.read h1).trans (Runs.write h2)

theorem jumpIf_runs {cc : Cond} {addr : Word} {s t : State} (e : jumpIf cc addr s = .next t) : Runs s t := by
  unfold jumpIf at e
  split at e <;> cases e
  exacts [.registers rfl, .refl _]

theorem jumpRelativeIf_runs {cc : Cond} {n : Byte} {s t : State} (e : jumpRelativeIf cc n s = .next t) : Runs s t := by
  unfold jumpRelativeIf at e
  split at e <;> cases e
  exacts [.registers rfl, .refl _]

theorem callTo_runs {addr : Word} {s t : State} (e : callTo addr s = .next t) : Runs s t := by
  obtain ⟨⟨⟩, s1, h, e⟩ := finish_eq_next.1 e
  cases e
  exact (Runs.push h).trans (.registers rfl)

theorem callIf_runs {cc : Cond} {addr : Word} {s t : State} (e : callIf cc addr s = .next t) : Runs s t := by
  unfold callIf at e
  split at e
  · exact callTo_runs e
  · cases e; exact .refl _

theorem returnTo_runs {s t : State} (e : returnTo s = .next t) : Runs s t := by
  obtain ⟨v, s1, h, e⟩ := finish_eq_next.1 e
  cases e
  exact (Runs.pop h).trans (.registers rfl)

theorem returnIf_runs {cc : Cond} {s t : State} (e : returnIf cc s = .next t) : Runs s t := by
  unfold returnIf at e
  split at e
  · exact returnTo_runs e
  · cases e; exact .refl _

theorem returnEnabling_runs {s t : State} (e : returnEnabling s = .next t) : Runs s t := by
  obtain ⟨⟨⟩, s1, h, e⟩ := finish_eq_next.1 e
  cases e
  obtain ⟨v, s2, hp, rfl⟩ := returnFromInterrupt_ok h
  exact (Runs.pop hp).trans (.registers rfl)

theorem stopUnimplemented_runs {op : Opcode} {s t : State} (e : stopUnimplemented op s = .next t) : Runs s t := by
  unfold stopUnimplemented at e
  split at e <;> cases e
  exact .registers rfl

theorem cbEffect_runs {sub : Byte} {s t : State} (e : cbEffect sub s = .next t) : Runs s t := by
  unfold cbEffect at e
  simp only at e
  split at e
  · exact shiftReg_runs e
  · exact shiftHL_runs e
  · cases e; exact .registers rfl
  · exact testBitHL_runs e
  · exact changeReg_runs e
  · exact changeHL_runs e
  · exact changeReg_runs e
  · exact changeHL_runs e

/-- Every instruction: what it can leave unchanged, and that it keeps the invariant. -/
theorem exec_runs {i : Instr} {s t : State} (e : exec i s = .next t) : Runs s t := by
  cases i
  case rlcIndHL | rrcIndHL | rlIndHL | rrIndHL => exact shiftHL_runs e
  case slaIndHL | sraIndHL | swapIndHL | srlIndHL => exact shiftHL_runs e
  case bit0IndHL | bit1IndHL | bit2IndHL | bit3IndHL | bit4IndHL | bit5IndHL | bit6IndHL | bit7IndHL => exact testBitHL_runs e
  case res0IndHL | res1IndHL | res2IndHL | res3IndHL | res4IndHL | res5IndHL | res6IndHL | res7IndHL => exact changeHL_runs e
  case set0IndHL | set1IndHL | set2IndHL | set3IndHL | set4IndHL | set5IndHL | set6IndHL | set7IndHL => exact changeHL_runs e
  case incIndHL | decIndHL => exact modifyHL_runs e
  case addAIndHL => exact withHL_runs (op := .add) e
  case adcAIndHL => exact withHL_runs (op := .adc) e
  case subIndHL => exact withHL_runs (op := .sub) e
  case sbcAIndHL => exact withHL_runs (op := .sbc) e
  case andIndHL => exact withHL_runs (op := .and) e
  case xorIndHL => exact withHL_runs (op := .xor) e
  case orIndHL => exact withHL_runs (op := .or) e
  case cpIndHL => exact withHL_runs (op := .cp) e
  case popBC => exact popPair_runs (p := .bc) e
  case popDE => exact popPair_runs (p := .de) e
  case popHL => exact popPair_runs (p := .hl) e
  case popAF => exact popPair_runs (p := .af) e
  case pushBC => exact pushPair_runs (p := .bc) e
  case pushDE => exact pushPair_runs (p := .de) e
  case pushHL => exact pushPair_runs (p := .hl) e
  case pushAF => exact pushPair_runs (p := .af) e
  case prefixCb => exact cbEffect_runs e
  case reti => exact returnEnabling_runs e
  case ldBIndHL | ldCIndHL | ldDIndHL | ldEIndHL | ldHIndHL | ldLIndHL | ldAIndHL => exact loadByte_runs e
  case ldAIndBC | ldAIndDE | ldAIndN16 | ldhAIndN8 | ldAIndC => exact loadByte_runs e
  case ldIndHLB | ldIndHLC | ldIndHLD | ldIndHLE | ldIndHLH | ldIndHLL | ldIndHLA => exact storeByte_runs e
  case ldIndHLN8 | ldIndBCA | ldIndDEA | ldIndN16A | ldhIndN8A | ldIndCA => exact storeByte_runs e
  case ldIndHLIncA | ldIndHLDecA => exact storeAndStep_runs e
  case ldAIndHLInc | ldAIndHLDec => exact loadAndStep_runs e
  case ldIndN16SP => exact storeSP_runs e
  case jpNZN16 | jpZN16 | jpNCN16 | jpCN16 => exact jumpIf_runs e
  case jrNZE8 | jrZE8 | jrNCE8 | jrCE8 => exact jumpRelativeIf_runs e
  case callNZN16 | callZN16 | callNCN16 | callCN16 => exact callIf_runs e
  case callN16 | rst00 | rst08 | rst10 | rst18 | rst20 | rst28 | rst30 | rst38 => exact callTo_runs e
  case retNZ | retZ | retNC | retC => exact returnIf_runs e
  case ret => exact returnTo_runs e
  case stop | unassignedD3 | unassignedDB | unassignedDD | unassignedE3 | unassignedE4 | unassignedEB | unassignedEC |
      unassignedED | unassignedF4 | unassignedFC | unassignedFD => exact stopUnimplemented_runs e
  case decSP => exact stepPair_runs (p := .sp) (delta := -1) e
  all_goals
    apply Runs.registers
    cases e
    rfl

end Sys2Proof.Machine
end

