-- ==== Sys2Proof/Laws/Io.lean ====
section
/-! SUPPORT. The construction of the slot table, and registration. -/

namespace Sys2Proof.Machine

open Sys2Proof

/-- Registering a free slot adds its entry. -/
theorem registerIoHandler_free (slots : List SlotEntry) (new : SlotEntry) (h : lookupSlot slots new.slot = none) :
    registerIoHandler slots new = .ok (slots ++ [new]) := by
  unfold registerIoHandler; rw [h]

/-- Registering a claimed slot faults. -/
theorem registerIoHandler_claimed (slots : List SlotEntry) (new e : SlotEntry) (h : lookupSlot slots new.slot = some e) :
    registerIoHandler slots new = .error (.doubleRegistration new.slot) := by
  unfold registerIoHandler; rw [h]

/-- A slot found is the slot looked for. -/
theorem lookupSlot_slot {slots : List SlotEntry} {slot : Slot} {e : SlotEntry} (h : lookupSlot slots slot = some e) :
    e.slot = slot ∧ e ∈ slots := by
  unfold lookupSlot at h
  exact ⟨by simpa using List.find?_some h, List.mem_of_find?_eq_some h⟩

/-- A slot not found is no entry's. -/
theorem lookupSlot_none {slots : List SlotEntry} {slot : Slot} (h : lookupSlot slots slot = none) :
    ∀ e ∈ slots, e.slot ≠ slot := by
  unfold lookupSlot at h
  simpa using h

end Sys2Proof.Machine
end

