-- ==== Sys2Proof/Laws/Ppu.lean ====
section
/-! SUPPORT. Everything a tick of the PPU can do: it changes the PPU, the pixel buffer, IF bit 0 and its own report, and leaves
the counter below the budget. -/

namespace Sys2Proof.Machine

open Sys2Proof

/-- `t` differs from `s` at most in the PPU, the pixel buffer, IF and the tick's report. -/
def SameButPpu (s t : State) : Prop :=
  t = { s with ppu := t.ppu, frame := t.frame, ifr := t.ifr, enteringVblank := t.enteringVblank }

theorem SameButPpu.refl (s : State) : SameButPpu s s := rfl

theorem SameButPpu.trans {s t u : State} (h1 : SameButPpu s t) (h2 : SameButPpu t u) : SameButPpu s u := by
  unfold SameButPpu at *
  rw [h2, h1]

theorem endHBlank_same (s : State) : SameButPpu s (endHBlank s) := by
  unfold endHBlank
  split <;> rfl

theorem endVBlankLine_same (s : State) : SameButPpu s (endVBlankLine s) := by
  unfold endVBlankLine
  split <;> rfl

/-- A transition changes only what the PPU may change. -/
theorem ppuTransition_same (s : State) : SameButPpu s (ppuTransition s) := by
  unfold ppuTransition
  cases s.ppu.mode
  · exact rfl
  · exact rfl
  · exact SameButPpu.trans (t := payBudget s) rfl (endHBlank_same _)
  · exact SameButPpu.trans (t := payBudget s) rfl (endVBlankLine_same _)

theorem ppuLoop_same (fuel : Nat) (s : State) : SameButPpu s (ppuLoop fuel s) := by
  induction fuel generalizing s with
  | zero => exact SameButPpu.refl s
  | succ n ih =>
    unfold ppuLoop
    split
    · exact SameButPpu.refl s
    · exact (ppuTransition_same s).trans (ih _)

/-- A tick changes only what the PPU may change. -/
theorem ppuTick_same (k : Nat) (s : State) : SameButPpu s (ppuTick k s) := by
  unfold ppuTick
  exact SameButPpu.trans (t := { s.setPpu { s.ppu with counter := s.ppu.counter + k } with enteringVblank := false }) rfl
    (ppuLoop_same _ _)

@[simp] theorem ppuTick_params (k : Nat) (s : State) : (ppuTick k s).params = s.params := by rw [ppuTick_same k s]
@[simp] theorem ppuTick_ram (k : Nat) (s : State) : (ppuTick k s).ram = s.ram := by rw [ppuTick_same k s]
@[simp] theorem ppuTick_rom (k : Nat) (s : State) : (ppuTick k s).rom = s.rom := by rw [ppuTick_same k s]
@[simp] theorem ppuTick_romLen (k : Nat) (s : State) : (ppuTick k s).romLen = s.romLen := by rw [ppuTick_same k s]
@[simp] theorem ppuTick_slots (k : Nat) (s : State) : (ppuTick k s).slots = s.slots := by rw [ppuTick_same k s]
@[simp] theorem ppuTick_run (k : Nat) (s : State) : (ppuTick k s).run = s.run := by rw [ppuTick_same k s]

theorem endHBlank_counter (s : State) : (endHBlank s).ppu.counter = s.ppu.counter := by
  unfold endHBlank; split <;> rfl

theorem endVBlankLine_counter (s : State) : (endVBlankLine s).ppu.counter = s.ppu.counter := by
  unfold endVBlankLine; split <;> rfl

/-- A transition pays the budget of the mode it leaves. -/
theorem ppuTransition_counter (s : State) :
    (ppuTransition s).ppu.counter = s.ppu.counter - budget s.params s.ppu.mode := by
  unfold ppuTransition
  split
  · rfl
  · rfl
  · exact endHBlank_counter _
  · exact endVBlankLine_counter _

theorem ppuTransition_params (s : State) : (ppuTransition s).params = s.params := by rw [ppuTransition_same s]

/-- With positive budgets the loop ends with the counter below the budget of the mode it stops in (48_ppu.md R1210). -/
theorem ppuLoop_counter (fuel : Nat) (s : State) (hb : ∀ m, 0 < budget s.params m) (hf : s.ppu.counter ≤ fuel) :
    (ppuLoop fuel s).ppu.counter < budget s.params (ppuLoop fuel s).ppu.mode := by
  induction fuel generalizing s with
  | zero =>
    have := hb s.ppu.mode
    unfold ppuLoop
    omega
  | succ n ih =>
    unfold ppuLoop
    split
    · assumption
    · have hp := hb s.ppu.mode
      have hc := ppuTransition_counter s
      have := ih (ppuTransition s) (by rw [ppuTransition_params]; exact hb) (by omega)
      rwa [ppuTransition_params] at this

/-- The bytes of a rendered row: four of each pixel. -/
theorem pixelBytes_length (p : Params) (v : Shade) : (pixelBytes p v).length = 4 := rfl

theorem lineShades_length (s : State) (ly : Nat) : (lineShades s ly).length = 160 := by
  simp [lineShades]

theorem rowBytes_length (p : Params) (shades : List Shade) : (shades.flatMap (pixelBytes p)).length = 4 * shades.length := by
  induction shades with
  | nil => rfl
  | cons v rest ih => simp [List.flatMap_cons, pixelBytes_length, ih]; omega

end Sys2Proof.Machine
end

