-- ==== Sys2Proof/Laws/Step.lean ====
section
/-! SUPPORT. Once for the fetch, the CPU step and the step everything they can do. -/

namespace Sys2Proof.Machine

open Sys2Proof

/-! ### The step by cases -/

/-- The step of a run that is on. -/
theorem step_of_running {s : State} (h : s.run = .running) :
    step s =
      match cpuStep s with
      | .next (s1, k) =>
        match s1.run with
        | .running => ticks k s1
        | .stopped _ => .next s1
      | .fault f => .fault f
      | .refused r => .refused r := by
  cases s
  cases h
  rfl

/-- A step that gives a next state: the run was on, and after the CPU step either everything ticked or the run ended. -/
theorem step_next {s t : State} (h : step s = .next t) :
    s.run = .running ∧ ∃ s1 k, cpuStep s = .next (s1, k) ∧
      (s1.run = .running ∧ ticks k s1 = .next t ∨ (∃ r, s1.run = .stopped r) ∧ t = s1) := by
  cases hr : s.run with
  | stopped r => unfold step systemStep at h; rw [hr] at h; cases h
  | running =>
    rw [step_of_running hr] at h
    cases hc : cpuStep s with
    | next p =>
      obtain ⟨s1, k⟩ := p
      rw [hc] at h
      simp only at h
      refine ⟨rfl, s1, k, rfl, ?_⟩
      cases h1 : s1.run with
      | running => rw [h1] at h; exact .inl ⟨rfl, h⟩
      | stopped r => rw [h1] at h; cases h; exact .inr ⟨⟨r, rfl⟩, rfl⟩
    | fault f => rw [hc] at h; cases h
    | refused r => rw [hc] at h; cases h

/-- The step dispatches exactly when an interrupt is due (60_exceptions.md R1301). -/
theorem noDispatch_iff (s : State) : NoDispatch s ↔ dispatchDue s = false := by
  unfold NoDispatch dispatchDue pendingEnabled
  cases s.ime <;> simp

/-! ### What fetching and running can do -/

theorem fetch8_runs {s t : State} {v : Byte} (e : fetch8 s = .ok v t) : Runs s t := by
  obtain ⟨s1, h, -, rfl⟩ := fetch8_ok e
  exact (Runs.read h).trans (.registers rfl)

theorem fetchOpcode_runs {s t : State} {op : Opcode} (e : fetchOpcode s = .ok op t) : Runs s t := by
  obtain ⟨b, s1, h1, e⟩ := andThen_eq_ok.1 e
  split at e
  · obtain ⟨b, s2, h2, e⟩ := andThen_eq_ok.1 e
    cases e
    exact (fetch8_runs h1).trans (fetch8_runs h2)
  · cases e
    exact fetch8_runs h1

theorem fetchOperand_runs {op : Opcode} {i : Instr} {s t : State} (e : fetchOperand op s = .ok i t) : Runs s t := by
  unfold fetchOperand at e
  split at e
  · cases e
    exact .refl _
  · split at e
    · cases e
      exact .refl _
    · obtain ⟨n, s1, h1, e⟩ := andThen_eq_ok.1 e
      cases e
      exact fetch8_runs h1
    · obtain ⟨nn, s1, h1, e⟩ := andThen_eq_ok.1 e
      cases e
      obtain ⟨lo, s2, h2, h1⟩ := andThen_eq_ok.1 h1
      obtain ⟨hi, s3, h3, h1⟩ := andThen_eq_ok.1 h1
      cases h1
      exact (fetch8_runs h2).trans (fetch8_runs h3)

/-- The opcode's part of a CPU step: its kind, and what it leaves unchanged. -/
theorem runOpcode_ok {op : Opcode} {s t : State} {k : StepKind} (e : runOpcode op s = .next (t, k)) :
    (∃ taken, k = .instr op taken) ∧ Runs s t := by
  unfold runOpcode at e
  split at e
  · cases e
    exact ⟨⟨_, rfl⟩, .registers rfl⟩
  · split at e
    · obtain ⟨i, s1, h1, e⟩ := finish_eq_next.1 e
      split at e
      · rename_i s2 h2
        cases e
        exact ⟨⟨_, rfl⟩, (fetchOperand_runs h1).trans (exec_runs h2)⟩
      · cases e
      · cases e
    · cases e
      exact ⟨⟨_, rfl⟩, .registers rfl⟩

/-- Taking an interrupt leaves unchanged what every instruction does, and keeps the invariant. -/
theorem takeInterrupt_runs {s t : State} (e : takeInterrupt s = .ok () t) : Runs s t := by
  obtain ⟨s1, h, rfl⟩ := takeInterrupt_ok e
  have hp := Runs.push h
  exact ⟨by rw [hp.same], fun hs => by
    have h1 := hp.inv { hs with }
    exact { h1 with }⟩

/-- A CPU step leaves unchanged what every instruction does, and keeps the invariant. -/
theorem cpuStep_runs {s t : State} {k : StepKind} (e : cpuStep s = .next (t, k)) : Runs s t := by
  unfold cpuStep at e
  split at e
  · obtain ⟨⟨⟩, s1, h1, e⟩ := finish_eq_next.1 e
    cases e
    exact takeInterrupt_runs h1
  · split at e
    · cases e
      exact .refl _
    · obtain ⟨op, s1, h1, e⟩ := finish_eq_next.1 e
      exact (fetchOpcode_runs h1).trans (runOpcode_ok e).2

end Sys2Proof.Machine
end

