-- ==== Sys2Proof/Tests/Slice0.lean ====
section
/-! SUPPORT. Tests: ill-formed terms, words written out from the spec's encodings, single steps with results from
spec/95_test_vectors.md, and for every statement with hypotheses a state and operands that meet them (`witness_…`). -/

namespace Sys2Proof.Tests

open Sys2Proof Sys2Proof.Machine

/-! ### Well-formedness -/

/-- PREFIX CB is no instruction of its own: it is refused with any sub-opcode. -/
theorem test_wf_refuses_prefix_cb : (Instr.prefixCb 0x00).wf = false ∧ (Instr.prefixCb 0xFF).wf = false := by decide

/-- A plain instruction, a CB instruction, the widest immediate, and an unassigned opcode are well-formed. -/
theorem test_wf_accepts :
    Instr.nop.wf = true ∧ Instr.set7A.wf = true ∧ (Instr.ldSPN16 0xFFFF).wf = true ∧ Instr.unassignedFD.wf = true := by
  decide

/-! ### Decoding -/

/-- The bytes decode to the instruction and nothing is left over. -/
def decodesTo (bytes : List Byte) (i : Instr) : Bool :=
  match decode bytes with
  | .ok (j, rest) => j == i && rest.isEmpty
  | .error _ => false

/-- Every row decodes. -/
def decodesAll (rows : List (List Byte × Instr)) : Bool := rows.all fun row => decodesTo row.1 row.2

/-- `01 ddd sss` with the source registers and (HL) in turn (R501, R503). -/
theorem test_decode_ld_into_b :
    decodesAll
      [([0b01_000_000], .ldBB), ([0b01_000_001], .ldBC), ([0b01_000_010], .ldBD), ([0b01_000_011], .ldBE),
       ([0b01_000_100], .ldBH), ([0b01_000_101], .ldBL), ([0b01_000_110], .ldBIndHL), ([0b01_000_111], .ldBA)] = true := rfl

/-- `01 ddd sss` with the source registers and (HL) in turn (R501, R503). -/
theorem test_decode_ld_into_c :
    decodesAll
      [([0b01_001_000], .ldCB), ([0b01_001_001], .ldCC), ([0b01_001_010], .ldCD), ([0b01_001_011], .ldCE),
       ([0b01_001_100], .ldCH), ([0b01_001_101], .ldCL), ([0b01_001_110], .ldCIndHL), ([0b01_001_111], .ldCA)] = true := rfl

/-- `01 ddd sss` with the source registers and (HL) in turn (R501, R503). -/
theorem test_decode_ld_into_d :
    decodesAll
      [([0b01_010_000], .ldDB), ([0b01_010_001], .ldDC), ([0b01_010_010], .ldDD), ([0b01_010_011], .ldDE),
       ([0b01_010_100], .ldDH), ([0b01_010_101], .ldDL), ([0b01_010_110], .ldDIndHL), ([0b01_010_111], .ldDA)] = true := rfl

/-- `01 ddd sss` with the source registers and (HL) in turn (R501, R503). -/
theorem test_decode_ld_into_e :
    decodesAll
      [([0b01_011_000], .ldEB), ([0b01_011_001], .ldEC), ([0b01_011_010], .ldED), ([0b01_011_011], .ldEE),
       ([0b01_011_100], .ldEH), ([0b01_011_101], .ldEL), ([0b01_011_110], .ldEIndHL), ([0b01_011_111], .ldEA)] = true := rfl

/-- `01 ddd sss` with the source registers and (HL) in turn (R501, R503). -/
theorem test_decode_ld_into_h :
    decodesAll
      [([0b01_100_000], .ldHB), ([0b01_100_001], .ldHC), ([0b01_100_010], .ldHD), ([0b01_100_011], .ldHE),
       ([0b01_100_100], .ldHH), ([0b01_100_101], .ldHL), ([0b01_100_110], .ldHIndHL), ([0b01_100_111], .ldHA)] = true := rfl

/-- `01 ddd sss` with the source registers and (HL) in turn (R501, R503). -/
theorem test_decode_ld_into_l :
    decodesAll
      [([0b01_101_000], .ldLB), ([0b01_101_001], .ldLC), ([0b01_101_010], .ldLD), ([0b01_101_011], .ldLE),
       ([0b01_101_100], .ldLH), ([0b01_101_101], .ldLL), ([0b01_101_110], .ldLIndHL), ([0b01_101_111], .ldLA)] = true := rfl

/-- `01 ddd sss` with the source registers and (HL) in turn (R501, R503). -/
theorem test_decode_ld_into_a :
    decodesAll
      [([0b01_111_000], .ldAB), ([0b01_111_001], .ldAC), ([0b01_111_010], .ldAD), ([0b01_111_011], .ldAE),
       ([0b01_111_100], .ldAH), ([0b01_111_101], .ldAL), ([0b01_111_110], .ldAIndHL), ([0b01_111_111], .ldAA)] = true := rfl

/-- `01 110 sss` (R504). -/
theorem test_decode_ld_to_hl :
    decodesAll
      [([0b01_110_000], .ldIndHLB), ([0b01_110_001], .ldIndHLC), ([0b01_110_010], .ldIndHLD),
       ([0b01_110_011], .ldIndHLE), ([0b01_110_100], .ldIndHLH), ([0b01_110_101], .ldIndHLL),
       ([0b01_110_111], .ldIndHLA)] = true := rfl

/-- `00 ddd 110 n8` (R502, R505). -/
theorem test_decode_ld_n8 :
    decodesAll
      [([0b00_000_110, 0x5A], .ldBN8 0x5A), ([0b00_001_110, 0x5A], .ldCN8 0x5A),
       ([0b00_010_110, 0x5A], .ldDN8 0x5A), ([0b00_011_110, 0x5A], .ldEN8 0x5A),
       ([0b00_100_110, 0x5A], .ldHN8 0x5A), ([0b00_101_110, 0x5A], .ldLN8 0x5A),
       ([0b00_111_110, 0x5A], .ldAN8 0x5A), ([0b00_110_110, 0x5A], .ldIndHLN8 0x5A)] = true := rfl

/-- The loads of A (R506 to R519). -/
theorem test_decode_ld_a :
    decodesAll
      [([0b00_001_010], .ldAIndBC), ([0b00_011_010], .ldAIndDE), ([0b00_000_010], .ldIndBCA),
       ([0b00_010_010], .ldIndDEA), ([0b11_111_010, 0x44, 0xFF], .ldAIndN16 0xFF44),
       ([0b11_101_010, 0x44, 0xFF], .ldIndN16A 0xFF44), ([0b11_110_000, 0x80], .ldhAIndN8 0x80),
       ([0b11_100_000, 0x80], .ldhIndN8A 0x80), ([0b11_110_010], .ldAIndC), ([0b11_100_010], .ldIndCA),
       ([0b00_100_010], .ldIndHLIncA), ([0b00_101_010], .ldAIndHLInc), ([0b00_110_010], .ldIndHLDecA),
       ([0b00_111_010], .ldAIndHLDec)] = true := rfl

/-- The 16-bit loads and the stack (R601 to R608). -/
theorem test_decode_ld16 :
    decodesAll
      [([0b00_000_001, 0x34, 0x12], .ldBCN16 0x1234), ([0b00_010_001, 0x34, 0x12], .ldDEN16 0x1234),
       ([0b00_100_001, 0x34, 0x12], .ldHLN16 0x1234), ([0b00_110_001, 0x34, 0x12], .ldSPN16 0x1234),
       ([0b00_001_000, 0x00, 0xC0], .ldIndN16SP 0xC000), ([0b11_111_001], .ldSPHL),
       ([0b11_111_000, 0x80], .ldHLSPE8 0x80), ([0b11_000_101], .pushBC), ([0b11_010_101], .pushDE),
       ([0b11_100_101], .pushHL), ([0b11_110_101], .pushAF), ([0b11_000_001], .popBC), ([0b11_010_001], .popDE),
       ([0b11_100_001], .popHL), ([0b11_110_001], .popAF)] = true := rfl

/-- `10 yyy sss` and `11 yyy 110 n8` of one operation (30_encoding.md R306). -/
theorem test_decode_alu_add :
    decodesAll
      [([0b10_000_000], .addAB), ([0b10_000_001], .addAC), ([0b10_000_010], .addAD), ([0b10_000_011], .addAE),
       ([0b10_000_100], .addAH), ([0b10_000_101], .addAL), ([0b10_000_110], .addAIndHL), ([0b10_000_111], .addAA),
       ([0b11_000_110, 0x3C], .addAN8 0x3C)] = true := rfl

/-- `10 yyy sss` and `11 yyy 110 n8` of one operation (30_encoding.md R306). -/
theorem test_decode_alu_adc :
    decodesAll
      [([0b10_001_000], .adcAB), ([0b10_001_001], .adcAC), ([0b10_001_010], .adcAD), ([0b10_001_011], .adcAE),
       ([0b10_001_100], .adcAH), ([0b10_001_101], .adcAL), ([0b10_001_110], .adcAIndHL), ([0b10_001_111], .adcAA),
       ([0b11_001_110, 0x3C], .adcAN8 0x3C)] = true := rfl

/-- `10 yyy sss` and `11 yyy 110 n8` of one operation (30_encoding.md R306). -/
theorem test_decode_alu_sub :
    decodesAll
      [([0b10_010_000], .subB), ([0b10_010_001], .subC), ([0b10_010_010], .subD), ([0b10_010_011], .subE),
       ([0b10_010_100], .subH), ([0b10_010_101], .subL), ([0b10_010_110], .subIndHL), ([0b10_010_111], .subA),
       ([0b11_010_110, 0x3C], .subN8 0x3C)] = true := rfl

/-- `10 yyy sss` and `11 yyy 110 n8` of one operation (30_encoding.md R306). -/
theorem test_decode_alu_sbc :
    decodesAll
      [([0b10_011_000], .sbcAB), ([0b10_011_001], .sbcAC), ([0b10_011_010], .sbcAD), ([0b10_011_011], .sbcAE),
       ([0b10_011_100], .sbcAH), ([0b10_011_101], .sbcAL), ([0b10_011_110], .sbcAIndHL), ([0b10_011_111], .sbcAA),
       ([0b11_011_110, 0x3C], .sbcAN8 0x3C)] = true := rfl

/-- `10 yyy sss` and `11 yyy 110 n8` of one operation (30_encoding.md R306). -/
theorem test_decode_alu_and :
    decodesAll
      [([0b10_100_000], .andB), ([0b10_100_001], .andC), ([0b10_100_010], .andD), ([0b10_100_011], .andE),
       ([0b10_100_100], .andH), ([0b10_100_101], .andL), ([0b10_100_110], .andIndHL), ([0b10_100_111], .andA),
       ([0b11_100_110, 0x3C], .andN8 0x3C)] = true := rfl

/-- `10 yyy sss` and `11 yyy 110 n8` of one operation (30_encoding.md R306). -/
theorem test_decode_alu_xor :
    decodesAll
      [([0b10_101_000], .xorB), ([0b10_101_001], .xorC), ([0b10_101_010], .xorD), ([0b10_101_011], .xorE),
       ([0b10_101_100], .xorH), ([0b10_101_101], .xorL), ([0b10_101_110], .xorIndHL), ([0b10_101_111], .xorA),
       ([0b11_101_110, 0x3C], .xorN8 0x3C)] = true := rfl

/-- `10 yyy sss` and `11 yyy 110 n8` of one operation (30_encoding.md R306). -/
theorem test_decode_alu_or :
    decodesAll
      [([0b10_110_000], .orB), ([0b10_110_001], .orC), ([0b10_110_010], .orD), ([0b10_110_011], .orE),
       ([0b10_110_100], .orH), ([0b10_110_101], .orL), ([0b10_110_110], .orIndHL), ([0b10_110_111], .orA),
       ([0b11_110_110, 0x3C], .orN8 0x3C)] = true := rfl

/-- `10 yyy sss` and `11 yyy 110 n8` of one operation (30_encoding.md R306). -/
theorem test_decode_alu_cp :
    decodesAll
      [([0b10_111_000], .cpB), ([0b10_111_001], .cpC), ([0b10_111_010], .cpD), ([0b10_111_011], .cpE),
       ([0b10_111_100], .cpH), ([0b10_111_101], .cpL), ([0b10_111_110], .cpIndHL), ([0b10_111_111], .cpA),
       ([0b11_111_110, 0x3C], .cpN8 0x3C)] = true := rfl

/-- `00 ddd 100` and `00 ddd 101` (R727 to R730). -/
theorem test_decode_inc_dec :
    decodesAll
      [([0b00_000_100], .incB), ([0b00_001_100], .incC), ([0b00_010_100], .incD), ([0b00_011_100], .incE),
       ([0b00_100_100], .incH), ([0b00_101_100], .incL), ([0b00_110_100], .incIndHL), ([0b00_111_100], .incA),
       ([0b00_000_101], .decB), ([0b00_001_101], .decC), ([0b00_010_101], .decD), ([0b00_011_101], .decE),
       ([0b00_100_101], .decH), ([0b00_101_101], .decL), ([0b00_110_101], .decIndHL), ([0b00_111_101], .decA)] = true := rfl

/-- DAA to CCF and the accumulator rotates (R731 to R734, R901 to R904). -/
theorem test_decode_accumulator :
    decodesAll
      [([0b00_100_111], .daa), ([0b00_101_111], .cpl), ([0b00_110_111], .scf), ([0b00_111_111], .ccf),
       ([0b00_000_111], .rlca), ([0b00_001_111], .rrca), ([0b00_010_111], .rla), ([0b00_011_111], .rra)] = true := rfl

/-- The 16-bit arithmetic (R801 to R804). -/
theorem test_decode_alu16 :
    decodesAll
      [([0b00_001_001], .addHLBC), ([0b00_000_011], .incBC), ([0b00_001_011], .decBC), ([0b00_011_001], .addHLDE),
       ([0b00_010_011], .incDE), ([0b00_011_011], .decDE), ([0b00_101_001], .addHLHL), ([0b00_100_011], .incHL),
       ([0b00_101_011], .decHL), ([0b00_111_001], .addHLSP), ([0b00_110_011], .incSP), ([0b00_111_011], .decSP),
       ([0b11_101_000, 0xFF], .addSPE8 0xFF)] = true := rfl

/-- CB `00 yyy zzz` (30_encoding.md R307). -/
theorem test_decode_cb_rlc_rrc :
    decodesAll
      [([0xCB, 0b00_000_000], .rlcB), ([0xCB, 0b00_000_001], .rlcC), ([0xCB, 0b00_000_010], .rlcD),
       ([0xCB, 0b00_000_011], .rlcE), ([0xCB, 0b00_000_100], .rlcH), ([0xCB, 0b00_000_101], .rlcL),
       ([0xCB, 0b00_000_110], .rlcIndHL), ([0xCB, 0b00_000_111], .rlcA), ([0xCB, 0b00_001_000], .rrcB),
       ([0xCB, 0b00_001_001], .rrcC), ([0xCB, 0b00_001_010], .rrcD), ([0xCB, 0b00_001_011], .rrcE),
       ([0xCB, 0b00_001_100], .rrcH), ([0xCB, 0b00_001_101], .rrcL), ([0xCB, 0b00_001_110], .rrcIndHL),
       ([0xCB, 0b00_001_111], .rrcA)] = true := rfl

/-- CB `00 yyy zzz` (30_encoding.md R307). -/
theorem test_decode_cb_rl_rr :
    decodesAll
      [([0xCB, 0b00_010_000], .rlB), ([0xCB, 0b00_010_001], .rlC), ([0xCB, 0b00_010_010], .rlD),
       ([0xCB, 0b00_010_011], .rlE), ([0xCB, 0b00_010_100], .rlH), ([0xCB, 0b00_010_101], .rlL),
       ([0xCB, 0b00_010_110], .rlIndHL), ([0xCB, 0b00_010_111], .rlA), ([0xCB, 0b00_011_000], .rrB),
       ([0xCB, 0b00_011_001], .rrC), ([0xCB, 0b00_011_010], .rrD), ([0xCB, 0b00_011_011], .rrE),
       ([0xCB, 0b00_011_100], .rrH), ([0xCB, 0b00_011_101], .rrL), ([0xCB, 0b00_011_110], .rrIndHL),
       ([0xCB, 0b00_011_111], .rrA)] = true := rfl

/-- CB `00 yyy zzz` (30_encoding.md R307). -/
theorem test_decode_cb_sla_sra :
    decodesAll
      [([0xCB, 0b00_100_000], .slaB), ([0xCB, 0b00_100_001], .slaC), ([0xCB, 0b00_100_010], .slaD),
       ([0xCB, 0b00_100_011], .slaE), ([0xCB, 0b00_100_100], .slaH), ([0xCB, 0b00_100_101], .slaL),
       ([0xCB, 0b00_100_110], .slaIndHL), ([0xCB, 0b00_100_111], .slaA), ([0xCB, 0b00_101_000], .sraB),
       ([0xCB, 0b00_101_001], .sraC), ([0xCB, 0b00_101_010], .sraD), ([0xCB, 0b00_101_011], .sraE),
       ([0xCB, 0b00_101_100], .sraH), ([0xCB, 0b00_101_101], .sraL), ([0xCB, 0b00_101_110], .sraIndHL),
       ([0xCB, 0b00_101_111], .sraA)] = true := rfl

/-- CB `00 yyy zzz` (30_encoding.md R307). -/
theorem test_decode_cb_swap_srl :
    decodesAll
      [([0xCB, 0b00_110_000], .swapB), ([0xCB, 0b00_110_001], .swapC), ([0xCB, 0b00_110_010], .swapD),
       ([0xCB, 0b00_110_011], .swapE), ([0xCB, 0b00_110_100], .swapH), ([0xCB, 0b00_110_101], .swapL),
       ([0xCB, 0b00_110_110], .swapIndHL), ([0xCB, 0b00_110_111], .swapA), ([0xCB, 0b00_111_000], .srlB),
       ([0xCB, 0b00_111_001], .srlC), ([0xCB, 0b00_111_010], .srlD), ([0xCB, 0b00_111_011], .srlE),
       ([0xCB, 0b00_111_100], .srlH), ([0xCB, 0b00_111_101], .srlL), ([0xCB, 0b00_111_110], .srlIndHL),
       ([0xCB, 0b00_111_111], .srlA)] = true := rfl

/-- CB `01 bbb zzz` (30_encoding.md R307). -/
theorem test_decode_cb_bit_0_1 :
    decodesAll
      [([0xCB, 0b01_000_000], .bit0B), ([0xCB, 0b01_000_001], .bit0C), ([0xCB, 0b01_000_010], .bit0D),
       ([0xCB, 0b01_000_011], .bit0E), ([0xCB, 0b01_000_100], .bit0H), ([0xCB, 0b01_000_101], .bit0L),
       ([0xCB, 0b01_000_110], .bit0IndHL), ([0xCB, 0b01_000_111], .bit0A), ([0xCB, 0b01_001_000], .bit1B),
       ([0xCB, 0b01_001_001], .bit1C), ([0xCB, 0b01_001_010], .bit1D), ([0xCB, 0b01_001_011], .bit1E),
       ([0xCB, 0b01_001_100], .bit1H), ([0xCB, 0b01_001_101], .bit1L), ([0xCB, 0b01_001_110], .bit1IndHL),
       ([0xCB, 0b01_001_111], .bit1A)] = true := rfl

/-- CB `01 bbb zzz` (30_encoding.md R307). -/
theorem test_decode_cb_bit_2_3 :
    decodesAll
      [([0xCB, 0b01_010_000], .bit2B), ([0xCB, 0b01_010_001], .bit2C), ([0xCB, 0b01_010_010], .bit2D),
       ([0xCB, 0b01_010_011], .bit2E), ([0xCB, 0b01_010_100], .bit2H), ([0xCB, 0b01_010_101], .bit2L),
       ([0xCB, 0b01_010_110], .bit2IndHL), ([0xCB, 0b01_010_111], .bit2A), ([0xCB, 0b01_011_000], .bit3B),
       ([0xCB, 0b01_011_001], .bit3C), ([0xCB, 0b01_011_010], .bit3D), ([0xCB, 0b01_011_011], .bit3E),
       ([0xCB, 0b01_011_100], .bit3H), ([0xCB, 0b01_011_101], .bit3L), ([0xCB, 0b01_011_110], .bit3IndHL),
       ([0xCB, 0b01_011_111], .bit3A)] = true := rfl

/-- CB `01 bbb zzz` (30_encoding.md R307). -/
theorem test_decode_cb_bit_4_5 :
    decodesAll
      [([0xCB, 0b01_100_000], .bit4B), ([0xCB, 0b01_100_001], .bit4C), ([0xCB, 0b01_100_010], .bit4D),
       ([0xCB, 0b01_100_011], .bit4E), ([0xCB, 0b01_100_100], .bit4H), ([0xCB, 0b01_100_101], .bit4L),
       ([0xCB, 0b01_100_110], .bit4IndHL), ([0xCB, 0b01_100_111], .bit4A), ([0xCB, 0b01_101_000], .bit5B),
       ([0xCB, 0b01_101_001], .bit5C), ([0xCB, 0b01_101_010], .bit5D), ([0xCB, 0b01_101_011], .bit5E),
       ([0xCB, 0b01_101_100], .bit5H), ([0xCB, 0b01_101_101], .bit5L), ([0xCB, 0b01_101_110], .bit5IndHL),
       ([0xCB, 0b01_101_111], .bit5A)] = true := rfl

/-- CB `01 bbb zzz` (30_encoding.md R307). -/
theorem test_decode_cb_bit_6_7 :
    decodesAll
      [([0xCB, 0b01_110_000], .bit6B), ([0xCB, 0b01_110_001], .bit6C), ([0xCB, 0b01_110_010], .bit6D),
       ([0xCB, 0b01_110_011], .bit6E), ([0xCB, 0b01_110_100], .bit6H), ([0xCB, 0b01_110_101], .bit6L),
       ([0xCB, 0b01_110_110], .bit6IndHL), ([0xCB, 0b01_110_111], .bit6A), ([0xCB, 0b01_111_000], .bit7B),
       ([0xCB, 0b01_111_001], .bit7C), ([0xCB, 0b01_111_010], .bit7D), ([0xCB, 0b01_111_011], .bit7E),
       ([0xCB, 0b01_111_100], .bit7H), ([0xCB, 0b01_111_101], .bit7L), ([0xCB, 0b01_111_110], .bit7IndHL),
       ([0xCB, 0b01_111_111], .bit7A)] = true := rfl

/-- CB `10 bbb zzz` (30_encoding.md R307). -/
theorem test_decode_cb_res_0_1 :
    decodesAll
      [([0xCB, 0b10_000_000], .res0B), ([0xCB, 0b10_000_001], .res0C), ([0xCB, 0b10_000_010], .res0D),
       ([0xCB, 0b10_000_011], .res0E), ([0xCB, 0b10_000_100], .res0H), ([0xCB, 0b10_000_101], .res0L),
       ([0xCB, 0b10_000_110], .res0IndHL), ([0xCB, 0b10_000_111], .res0A), ([0xCB, 0b10_001_000], .res1B),
       ([0xCB, 0b10_001_001], .res1C), ([0xCB, 0b10_001_010], .res1D), ([0xCB, 0b10_001_011], .res1E),
       ([0xCB, 0b10_001_100], .res1H), ([0xCB, 0b10_001_101], .res1L), ([0xCB, 0b10_001_110], .res1IndHL),
       ([0xCB, 0b10_001_111], .res1A)] = true := rfl

/-- CB `10 bbb zzz` (30_encoding.md R307). -/
theorem test_decode_cb_res_2_3 :
    decodesAll
      [([0xCB, 0b10_010_000], .res2B), ([0xCB, 0b10_010_001], .res2C), ([0xCB, 0b10_010_010], .res2D),
       ([0xCB, 0b10_010_011], .res2E), ([0xCB, 0b10_010_100], .res2H), ([0xCB, 0b10_010_101], .res2L),
       ([0xCB, 0b10_010_110], .res2IndHL), ([0xCB, 0b10_010_111], .res2A), ([0xCB, 0b10_011_000], .res3B),
       ([0xCB, 0b10_011_001], .res3C), ([0xCB, 0b10_011_010], .res3D), ([0xCB, 0b10_011_011], .res3E),
       ([0xCB, 0b10_011_100], .res3H), ([0xCB, 0b10_011_101], .res3L), ([0xCB, 0b10_011_110], .res3IndHL),
       ([0xCB, 0b10_011_111], .res3A)] = true := rfl

/-- CB `10 bbb zzz` (30_encoding.md R307). -/
theorem test_decode_cb_res_4_5 :
    decodesAll
      [([0xCB, 0b10_100_000], .res4B), ([0xCB, 0b10_100_001], .res4C), ([0xCB, 0b10_100_010], .res4D),
       ([0xCB, 0b10_100_011], .res4E), ([0xCB, 0b10_100_100], .res4H), ([0xCB, 0b10_100_101], .res4L),
       ([0xCB, 0b10_100_110], .res4IndHL), ([0xCB, 0b10_100_111], .res4A), ([0xCB, 0b10_101_000], .res5B),
       ([0xCB, 0b10_101_001], .res5C), ([0xCB, 0b10_101_010], .res5D), ([0xCB, 0b10_101_011], .res5E),
       ([0xCB, 0b10_101_100], .res5H), ([0xCB, 0b10_101_101], .res5L), ([0xCB, 0b10_101_110], .res5IndHL),
       ([0xCB, 0b10_101_111], .res5A)] = true := rfl

/-- CB `10 bbb zzz` (30_encoding.md R307). -/
theorem test_decode_cb_res_6_7 :
    decodesAll
      [([0xCB, 0b10_110_000], .res6B), ([0xCB, 0b10_110_001], .res6C), ([0xCB, 0b10_110_010], .res6D),
       ([0xCB, 0b10_110_011], .res6E), ([0xCB, 0b10_110_100], .res6H), ([0xCB, 0b10_110_101], .res6L),
       ([0xCB, 0b10_110_110], .res6IndHL), ([0xCB, 0b10_110_111], .res6A), ([0xCB, 0b10_111_000], .res7B),
       ([0xCB, 0b10_111_001], .res7C), ([0xCB, 0b10_111_010], .res7D), ([0xCB, 0b10_111_011], .res7E),
       ([0xCB, 0b10_111_100], .res7H), ([0xCB, 0b10_111_101], .res7L), ([0xCB, 0b10_111_110], .res7IndHL),
       ([0xCB, 0b10_111_111], .res7A)] = true := rfl

/-- CB `11 bbb zzz` (30_encoding.md R307). -/
theorem test_decode_cb_set_0_1 :
    decodesAll
      [([0xCB, 0b11_000_000], .set0B), ([0xCB, 0b11_000_001], .set0C), ([0xCB, 0b11_000_010], .set0D),
       ([0xCB, 0b11_000_011], .set0E), ([0xCB, 0b11_000_100], .set0H), ([0xCB, 0b11_000_101], .set0L),
       ([0xCB, 0b11_000_110], .set0IndHL), ([0xCB, 0b11_000_111], .set0A), ([0xCB, 0b11_001_000], .set1B),
       ([0xCB, 0b11_001_001], .set1C), ([0xCB, 0b11_001_010], .set1D), ([0xCB, 0b11_001_011], .set1E),
       ([0xCB, 0b11_001_100], .set1H), ([0xCB, 0b11_001_101], .set1L), ([0xCB, 0b11_001_110], .set1IndHL),
       ([0xCB, 0b11_001_111], .set1A)] = true := rfl

/-- CB `11 bbb zzz` (30_encoding.md R307). -/
theorem test_decode_cb_set_2_3 :
    decodesAll
      [([0xCB, 0b11_010_000], .set2B), ([0xCB, 0b11_010_001], .set2C), ([0xCB, 0b11_010_010], .set2D),
       ([0xCB, 0b11_010_011], .set2E), ([0xCB, 0b11_010_100], .set2H), ([0xCB, 0b11_010_101], .set2L),
       ([0xCB, 0b11_010_110], .set2IndHL), ([0xCB, 0b11_010_111], .set2A), ([0xCB, 0b11_011_000], .set3B),
       ([0xCB, 0b11_011_001], .set3C), ([0xCB, 0b11_011_010], .set3D), ([0xCB, 0b11_011_011], .set3E),
       ([0xCB, 0b11_011_100], .set3H), ([0xCB, 0b11_011_101], .set3L), ([0xCB, 0b11_011_110], .set3IndHL),
       ([0xCB, 0b11_011_111], .set3A)] = true := rfl

/-- CB `11 bbb zzz` (30_encoding.md R307). -/
theorem test_decode_cb_set_4_5 :
    decodesAll
      [([0xCB, 0b11_100_000], .set4B), ([0xCB, 0b11_100_001], .set4C), ([0xCB, 0b11_100_010], .set4D),
       ([0xCB, 0b11_100_011], .set4E), ([0xCB, 0b11_100_100], .set4H), ([0xCB, 0b11_100_101], .set4L),
       ([0xCB, 0b11_100_110], .set4IndHL), ([0xCB, 0b11_100_111], .set4A), ([0xCB, 0b11_101_000], .set5B),
       ([0xCB, 0b11_101_001], .set5C), ([0xCB, 0b11_101_010], .set5D), ([0xCB, 0b11_101_011], .set5E),
       ([0xCB, 0b11_101_100], .set5H), ([0xCB, 0b11_101_101], .set5L), ([0xCB, 0b11_101_110], .set5IndHL),
       ([0xCB, 0b11_101_111], .set5A)] = true := rfl

/-- CB `11 bbb zzz` (30_encoding.md R307). -/
theorem test_decode_cb_set_6_7 :
    decodesAll
      [([0xCB, 0b11_110_000], .set6B), ([0xCB, 0b11_110_001], .set6C), ([0xCB, 0b11_110_010], .set6D),
       ([0xCB, 0b11_110_011], .set6E), ([0xCB, 0b11_110_100], .set6H), ([0xCB, 0b11_110_101], .set6L),
       ([0xCB, 0b11_110_110], .set6IndHL), ([0xCB, 0b11_110_111], .set6A), ([0xCB, 0b11_111_000], .set7B),
       ([0xCB, 0b11_111_001], .set7C), ([0xCB, 0b11_111_010], .set7D), ([0xCB, 0b11_111_011], .set7E),
       ([0xCB, 0b11_111_100], .set7H), ([0xCB, 0b11_111_101], .set7L), ([0xCB, 0b11_111_110], .set7IndHL),
       ([0xCB, 0b11_111_111], .set7A)] = true := rfl

/-- Control flow (R1001 to R1011). -/
theorem test_decode_control :
    decodesAll
      [([0b11_000_011, 0x50, 0x01], .jpN16 0x0150), ([0b11_101_001], .jpHL), ([0b00_011_000, 0xFE], .jrE8 0xFE),
       ([0b11_001_101, 0x50, 0x01], .callN16 0x0150), ([0b11_001_001], .ret), ([0b11_011_001], .reti),
       ([0b11_000_010, 0x50, 0x01], .jpNZN16 0x0150), ([0b00_100_000, 0xFE], .jrNZE8 0xFE),
       ([0b11_000_100, 0x50, 0x01], .callNZN16 0x0150), ([0b11_000_000], .retNZ),
       ([0b11_001_010, 0x50, 0x01], .jpZN16 0x0150), ([0b00_101_000, 0xFE], .jrZE8 0xFE),
       ([0b11_001_100, 0x50, 0x01], .callZN16 0x0150), ([0b11_001_000], .retZ),
       ([0b11_010_010, 0x50, 0x01], .jpNCN16 0x0150), ([0b00_110_000, 0xFE], .jrNCE8 0xFE),
       ([0b11_010_100, 0x50, 0x01], .callNCN16 0x0150), ([0b11_010_000], .retNC),
       ([0b11_011_010, 0x50, 0x01], .jpCN16 0x0150), ([0b00_111_000, 0xFE], .jrCE8 0xFE),
       ([0b11_011_100, 0x50, 0x01], .callCN16 0x0150), ([0b11_011_000], .retC), ([0b11_000_111], .rst00),
       ([0b11_001_111], .rst08), ([0b11_010_111], .rst10), ([0b11_011_111], .rst18), ([0b11_100_111], .rst20),
       ([0b11_101_111], .rst28), ([0b11_110_111], .rst30), ([0b11_111_111], .rst38)] = true := rfl

/-- The system instructions and the unassigned bytes (R1100 to R1106). -/
theorem test_decode_system :
    decodesAll
      [([0b00_000_000], .nop), ([0b01_110_110], .halt), ([0b00_010_000, 0x00], .stop 0x00), ([0b11_110_011], .di),
       ([0b11_111_011], .ei), ([0xD3], .unassignedD3), ([0xDB], .unassignedDB), ([0xDD], .unassignedDD),
       ([0xE3], .unassignedE3), ([0xE4], .unassignedE4), ([0xEB], .unassignedEB), ([0xEC], .unassignedEC),
       ([0xED], .unassignedED), ([0xF4], .unassignedF4), ([0xFC], .unassignedFC), ([0xFD], .unassignedFD)] = true := rfl

/-- Too few bytes are rejected by name, and the byte after 0xCB is a sub-opcode even where it is 0xCB. -/
theorem test_decode_short :
    decode [] = .error .noOpcode ∧ decode [0xCB] = .error .noSubOpcode ∧ decode [0x06] = .error .noImmediate ∧
      decode [0xC3, 0x50] = .error .noImmediate ∧ decode [0xCB, 0xCB] = .ok (.set1E, []) := ⟨rfl, rfl, rfl, rfl, rfl⟩

/-- Table words: a base row, an operand row with and without its operand's bits, a CB row numbered `(0xCB << 8) | sub`
(30_encoding.md R314), and the prefix alone. -/
theorem test_table_words :
    decodeTableWord 8 0x41 = some .ldBC ∧ decodeTableWord 8 0xC3 = some (.jpN16 0) ∧
      decodeTableWord 24 0x0150C3 = some (.jpN16 0x0150) ∧ decodeTableWord 16 0xCB37 = some .swapA ∧
      decodeTableWord 8 0xCB = some (.prefixCb 0) := ⟨rfl, rfl, rfl, rfl, rfl⟩

/-! ### Single instructions and steps -/

/-- The state after reset with A and F. -/
def withAF (a f : Byte) : State := { State.reset with a := a }.setF f

/-- The instruction gives a next state of which `p` holds. -/
def after (i : Instr) (s : State) (p : State → Bool) : Bool :=
  match exec i s with
  | .next t => p t
  | _ => false

/-- From A and F the instruction leaves A and F as said. -/
def gives (i : Instr) (a f a' f' : Byte) : Bool := after i (withAF a f) fun t => t.a == a' && t.f == f'

/-- From B and F the instruction leaves B and F as said. -/
def givesB (i : Instr) (b f b' f' : Byte) : Bool :=
  after i { withAF 0x01 f with b := b } fun t => t.b == b' && t.f == f'

/-- One step over the bytes placed at pc gives a next state of which `p` holds. -/
def ran (bytes : List Byte) (s : State) (p : State → Bool) : Bool :=
  match step (placeCode bytes s) with
  | .next t => p t
  | _ => false

/-- Rows ADD of 95_test_vectors.md V1. -/
theorem test_add :
    (gives (.addAN8 0x01) 0xFF 0x00 0x00 0xB0 && gives (.addAN8 0x00) 0x00 0x00 0x00 0x80 &&
      gives (.addAN8 0x01) 0x0F 0x00 0x10 0x20 && gives (.addAN8 0xF0) 0x10 0x00 0x00 0x90) = true := by decide

/-- Rows ADC of V1. -/
theorem test_adc :
    (gives (.adcAN8 0xFF) 0xFF 0x10 0xFF 0x30 && gives (.adcAN8 0x01) 0x8F 0x10 0x91 0x20 &&
      gives (.adcAN8 0x01) 0xFE 0x10 0x00 0xB0) = true := by decide

/-- Rows SUB of V1. -/
theorem test_sub :
    (gives (.subN8 0x01) 0x00 0x00 0xFF 0x70 && gives (.subN8 0x01) 0x10 0x00 0x0F 0x60 &&
      gives (.subN8 0x3C) 0x3C 0x00 0x00 0xC0 && gives (.subN8 0xFF) 0x00 0x00 0x01 0x70) = true := by decide

/-- Rows SBC of V1. -/
theorem test_sbc :
    (gives (.sbcAN8 0x00) 0x00 0x10 0xFF 0x70 && gives (.sbcAN8 0x0F) 0x10 0x10 0x00 0xE0) = true := by decide

/-- Rows CP of V1. -/
theorem test_cp :
    (gives (.cpN8 0x3C) 0x3C 0x00 0x3C 0xC0 && gives (.cpN8 0x40) 0x3C 0x00 0x3C 0x50) = true := by decide

/-- Rows AND, OR and XOR of V1. -/
theorem test_logic :
    (gives (.andN8 0x0F) 0xF0 0x00 0x00 0xA0 && gives (.orN8 0x00) 0x00 0x00 0x00 0x80 &&
      gives (.xorN8 0xFF) 0xFF 0x00 0x00 0x80 && gives .xorA 0x01 0xB0 0x00 0x80) = true := by decide

/-- Rows INC of V2: N is left 1. -/
theorem test_inc :
    (givesB .incB 0x00 0x10 0x01 0x50 && givesB .incB 0x0F 0x10 0x10 0x70 && givesB .incB 0xFF 0x10 0x00 0xF0 &&
      givesB .incB 0x7F 0x10 0x80 0x70) = true := by decide

/-- Rows DEC of V2. -/
theorem test_dec :
    (givesB .decB 0x10 0x10 0x0F 0x70 && givesB .decB 0x00 0x10 0xFF 0x70 && givesB .decB 0x01 0x10 0x00 0xD0 &&
      givesB .decB 0x80 0x10 0x7F 0x70) = true := by decide

/-- The DAA rows of 95_test_vectors.md 2.3. -/
theorem test_daa :
    (gives .daa 0x7D 0x00 0x83 0x00 && gives .daa 0x99 0x00 0x99 0x00 && gives .daa 0x0F 0x00 0x15 0x00 &&
      gives .daa 0x00 0x20 0x06 0x00 && gives .daa 0x00 0x10 0x60 0x10) = true := by decide

/-- The DAA rows with both corrections, with the wrap, and after a subtraction. -/
theorem test_daa_corners :
    (gives .daa 0x9A 0x00 0x00 0x90 && gives .daa 0xFA 0x00 0x00 0x80 && gives .daa 0x99 0x30 0xFF 0x10 &&
      gives .daa 0x0F 0x60 0x15 0x40) = true := by decide

/-- The CPL, SCF and CCF rows of 2.3. -/
theorem test_cpl_scf_ccf :
    (gives .cpl 0x35 0x00 0xCA 0x60 && gives .cpl 0xFF 0x00 0x00 0x60 && gives .scf 0x01 0xE0 0x01 0x90 &&
      gives .ccf 0x01 0x70 0x01 0x00 && gives .ccf 0x01 0x00 0x01 0x10) = true := by decide

/-- INC (HL) and DEC (HL) of 2.3. -/
theorem test_inc_dec_hl :
    (after .incIndHL { State.reset with h := 0xC0, l := 0x00, ram := [(0xC000, 0xFF)] }
        (fun t => t.ram.read 0xC000 == 0x00 && t.f == 0xF0) &&
      after .decIndHL { State.reset with h := 0x80, l := 0x00, ram := [(0x8000, 0x01)], fC := false }
        (fun t => t.ram.read 0x8000 == 0x00 && t.f == 0xC0)) = true := by decide

/-- The ADD HL rows of 2.4. -/
theorem test_add_hl :
    (after .addHLBC { withAF 0 0x80 with h := 0x8A, l := 0x23, b := 0x06, c := 0x05 } (fun t => t.hl == 0x9028 && t.f == 0xA0) &&
      after .addHLDE { withAF 0 0x00 with h := 0xFF, l := 0xFF, d := 0, e := 1 } (fun t => t.hl == 0x0000 && t.f == 0x30) &&
      after .addHLHL { withAF 0 0x00 with h := 0x80, l := 0x00 } (fun t => t.hl == 0x0000 && t.f == 0x10)) = true := by
  decide

/-- INC DE and DEC SP of 2.4. -/
theorem test_inc_dec_pair :
    (after .incDE { State.reset with d := 0xFF, e := 0xFF } (fun t => t.de == 0x0000 && t.f == 0xB0) &&
      after .decSP { State.reset with sp := 0x0000 } (fun t => t.sp == 0xFFFF && t.f == 0xB0)) = true := by decide

/-- ADD SP,e8 and LD HL,SP+e8 of 2.4 and 2.2. -/
theorem test_sp_plus_e8 :
    (after (.addSPE8 0x08) { State.reset with sp := 0xFFF8 } (fun t => t.sp == 0x0000 && t.f == 0x30) &&
      after (.addSPE8 0xFF) { State.reset with sp := 0x0001 } (fun t => t.sp == 0x0000 && t.f == 0x30) &&
      after (.ldHLSPE8 0xFF) { State.reset with sp := 0x0005 } (fun t => t.hl == 0x0004 && t.f == 0x30) &&
      after (.ldHLSPE8 0x80) { State.reset with sp := 0x1000 } (fun t => t.hl == 0x0F80 && t.f == 0x00)) = true := by
  decide

/-- The RLC, RRC, RL and RR rows of 2.5. -/
theorem test_cb_rotates :
    (givesB .rlcB 0x80 0x00 0x01 0x10 && givesB .rlcB 0xA5 0x00 0x4B 0x10 && givesB .rrcB 0x01 0x10 0x80 0x10 &&
      givesB .rrcB 0xA5 0x00 0xD2 0x10 && givesB .rlB 0x80 0x00 0x00 0x90 && givesB .rlB 0x01 0x10 0x03 0x00 &&
      givesB .rrB 0x01 0x10 0x80 0x10 && givesB .rrB 0x00 0x10 0x80 0x00) = true := by decide

/-- The SLA, SRA, SWAP and SRL rows of 2.5. -/
theorem test_cb_shifts :
    (givesB .slaB 0x80 0x00 0x00 0x90 && givesB .slaB 0xA5 0x00 0x4A 0x10 && givesB .sraB 0x80 0x00 0xC0 0x00 &&
      givesB .sraB 0x01 0x10 0x00 0x90 && givesB .swapB 0xA5 0x00 0x5A 0x00 && givesB .swapB 0x01 0x10 0x10 0x00 &&
      givesB .srlB 0x80 0x00 0x40 0x00 && givesB .srlB 0x01 0x10 0x00 0x90) = true := by decide

/-- The accumulator rotates leave Z 0 (2.5). -/
theorem test_accumulator_rotates :
    (gives .rla 0x80 0x00 0x00 0x10 && gives .rlA 0x80 0x00 0x00 0x90 && gives .rlca 0x00 0x80 0x00 0x00 &&
      gives .rra 0x01 0x00 0x00 0x10 && gives .rrca 0x01 0x00 0x80 0x10) = true := by decide

/-- The BIT, RES and SET rows of 2.5. -/
theorem test_bits :
    (givesB .bit7B 0x80 0x10 0x80 0x30 && givesB .bit7B 0x7F 0x00 0x7F 0xA0 && gives .res0A 0xFF 0x00 0xFE 0x00 &&
      after .set7IndHL { State.reset with h := 0xC0, l := 0x00 } (fun t => t.ram.read 0xC000 == 0x80 && t.f == 0xB0) &&
      after .set0IndHL { State.reset with h := 0xFF, l := 0x0F } (fun t => t.ifr == 0x01)) = true := by decide

/-- The load rows of 2.1, one step each from reset. -/
theorem test_loads :
    (ran [0x41] { State.reset with b := 0x12, c := 0x34 } (fun t => t.b == 0x34 && t.pc == 0x0101) &&
      ran [0x3E, 0x7F] State.reset (fun t => t.a == 0x7F && t.pc == 0x0102) &&
      ran [0x7E] { State.reset with h := 0xC0, l := 0x00, ram := [(0xC000, 0x5A)] } (fun t => t.a == 0x5A) &&
      ran [0x74] { State.reset with h := 0xC0, l := 0x10 } (fun t => t.ram.read 0xC010 == 0xC0)) = true := by decide

/-- The high page, the gap, an empty slot and IE (2.1). -/
theorem test_loads_io :
    (ran [0x0A] { State.reset with b := 0xFE, c := 0xA0 } (fun t => t.a == 0x00) &&
      ran [0xF0, 0x10] State.reset (fun t => t.a == 0xFF) &&
      ran [0xEA, 0xFF, 0xFF] { State.reset with a := 0x01 } (fun t => t.ie == 0x01 && t.pc == 0x0103) &&
      ran [0xF2] { State.reset with c := 0x0F, ifr := 0x05 } (fun t => t.a == 0x05)) = true := by decide

/-- LD (HL+),A and LD (HL-),A wrap HL; a bank select outside 0x2000..0x3FFF does nothing; a write of LY (2.1). -/
theorem test_hl_steps :
    (ran [0x22] { State.reset with h := 0xC0, l := 0xFF, a := 7 } (fun t => t.ram.read 0xC0FF == 7 && t.hl == 0xC100) &&
      ran [0x22] { State.reset with h := 0xFF, l := 0xFF, a := 0x1F } (fun t => t.ie == 0x1F && t.hl == 0x0000) &&
      ran [0x32] { State.reset with h := 0x00, l := 0x00, a := 5, hasMBC1 := true }
        (fun t => t.romBank == 1 && t.hl == 0xFFFF) &&
      after .ldIndHLA { State.reset with h := 0xFF, l := 0x44, ppu := { Ppu.reset with line := 0x20, mode := .drawing, counter := 9 } }
        (fun t => t.ppu.line == 0 && t.ppu.mode == .oamSearch && t.ppu.counter == 0)) = true := by decide

/-- The stack rows of 2.2; a push at SP = 0 reaches HRAM and IE. -/
theorem test_stack :
    (ran [0x08, 0x00, 0xC0] { State.reset with sp := 0xDFF0 }
        (fun t => t.ram.read 0xC000 == 0xF0 && t.ram.read 0xC001 == 0xDF) &&
      ran [0xC5] { State.reset with b := 0x12, c := 0x34 }
        (fun t => t.sp == 0xFFFC && t.ram.read 0xFFFC == 0x34 && t.ram.read 0xFFFD == 0x12) &&
      ran [0xD1] { State.reset with sp := 0xFFFC, ram := [(0xFFFC, 0x34), (0xFFFD, 0x12)] }
        (fun t => t.de == 0x1234 && t.sp == 0xFFFE) &&
      after .pushBC { State.reset with sp := 0x0000, b := 0xAB, c := 0xCD }
        (fun t => t.sp == 0xFFFE && t.ram.read 0xFFFE == 0xCD && t.ie == 0xAB)) = true := by decide

/-- POP AF drops the low nibble of F (V4). -/
theorem test_pop_af :
    ran [0xF1] { State.reset with sp := 0xFFFC, ram := [(0xFFFC, 0xFF), (0xFFFD, 0x12)] }
      (fun t => t.a == 0x12 && t.f == 0xF0 && t.sp == 0xFFFE) = true := by decide

/-- The jump rows of 2.6. -/
theorem test_jumps :
    (ran [0xC3, 0x50, 0x01] State.reset (fun t => t.pc == 0x0150) &&
      ran [0xC2, 0x00, 0x20] State.reset (fun t => t.pc == 0x0103) &&
      ran [0xC2, 0x00, 0x20] { State.reset with fZ := false } (fun t => t.pc == 0x2000) &&
      ran [0xE9] { State.reset with h := 0x40, l := 0x00 } (fun t => t.pc == 0x4000)) = true := by decide

/-- The relative jump rows of 2.6. -/
theorem test_relative_jumps :
    (ran [0x18, 0x05] State.reset (fun t => t.pc == 0x0107) && ran [0x18, 0xFE] State.reset (fun t => t.pc == 0x0100) &&
      ran [0x18, 0x80] State.reset (fun t => t.pc == 0x0082) &&
      ran [0x38, 0x10] { State.reset with pc := 0x0200 } (fun t => t.pc == 0x0212) &&
      ran [0x38, 0x10] { State.reset with pc := 0x0200, fC := false } (fun t => t.pc == 0x0202)) = true := by decide

/-- CALL, CALL C not taken, and RST 38 (2.6). -/
theorem test_calls :
    (ran [0xCD, 0x00, 0x20] { State.reset with pc := 0x0150 }
        (fun t => t.pc == 0x2000 && t.sp == 0xFFFC && t.ram.read 0xFFFC == 0x53 && t.ram.read 0xFFFD == 0x01) &&
      ran [0xDC, 0x00, 0x20] { State.reset with pc := 0x0150, fC := false } (fun t => t.pc == 0x0153 && t.sp == 0xFFFE) &&
      ran [0xFF] { State.reset with pc := 0x0200 }
        (fun t => t.pc == 0x0038 && t.sp == 0xFFFC && t.ram.read 0xFFFC == 0x01 && t.ram.read 0xFFFD == 0x02)) = true := by
  decide

/-- RET, RETI, RET NZ not taken and RET Z taken (2.6). -/
theorem test_returns :
    (ran [0xC9] { State.reset with sp := 0xFFFC, ram := [(0xFFFC, 0x53), (0xFFFD, 0x01)] }
        (fun t => t.pc == 0x0153 && t.sp == 0xFFFE && !t.ime) &&
      ran [0xD9] { State.reset with sp := 0xFFFC, ram := [(0xFFFC, 0x53), (0xFFFD, 0x01)] }
        (fun t => t.pc == 0x0153 && t.sp == 0xFFFE && t.ime) &&
      ran [0xC0] { State.reset with pc := 0x0300 } (fun t => t.pc == 0x0301 && t.sp == 0xFFFE) &&
      ran [0xC8] { State.reset with sp := 0xFFFC, ram := [(0xFFFD, 0x40)] } (fun t => t.pc == 0x4000 && t.sp == 0xFFFE)) =
      true := by decide

/-- NOP, HALT, DI, EI and SWAP A of 2.7. -/
theorem test_system :
    (ran [0x00] State.reset (fun t => t.pc == 0x0101) &&
      ran [0x76] { State.reset with pc := 0x0200 } (fun t => t.halted && t.pc == 0x0201) &&
      ran [0xF3] { State.reset with ime := true } (fun t => !t.ime) && ran [0xFB] State.reset (fun t => t.ime) &&
      ran [0xCB, 0x37] { State.reset with pc := 0x0200, a := 0xF0 } (fun t => t.a == 0x0F && t.pc == 0x0202)) = true := by
  decide

/-- STOP, an unassigned opcode and the breakpoint end the run with pc past the opcode (2.7). -/
theorem test_stops :
    (ran [0x10, 0x00] { State.reset with pc := 0x0300 }
        (fun t => t.run == .stopped (.unimplemented (.base 0x10)) && t.pc == 0x0301) &&
      ran [0xDD] { State.reset with pc := 0x0400 }
        (fun t => t.run == .stopped (.unimplemented (.base 0xDD)) && t.pc == 0x0401) &&
      ran [0x40] { State.reset with pc := 0x0400, params := { Params.default with breakpoint := some 0x40 } }
        (fun t => t.run == .stopped (.breakpoint 0x40) && t.pc == 0x0401)) = true := by decide

/-- The first and the last dispatch row of 2.8, and the wake-up from HALT of 2.7. -/
theorem test_dispatch :
    ((match step { State.reset with pc := 0x1234, sp := 0xD000, ime := true, ie := 0x1F, ifr := 0x1F } with
      | .next t => t.ifr == 0x1E && t.pc == 0x0040 && t.sp == 0xCFFE && t.ram.read 0xCFFE == 0x34 &&
          t.ram.read 0xCFFF == 0x12 && !t.ime
      | _ => false) &&
      (match step { State.reset with pc := 0x1234, sp := 0xD000, ime := true, ie := 0x1F, ifr := 0x10 } with
      | .next t => t.ifr == 0x00 && t.pc == 0x0060
      | _ => false) &&
      match step { State.reset with pc := 0x0200, ime := true, ie := 0x01, ifr := 0x01, halted := true } with
      | .next t => t.pc == 0x0040 && !t.halted && t.ram.read 0xFFFD == 0x02
      | _ => false) = true := by decide

/-- No dispatch: nothing enabled is pending; bits 7..5 do not take part (2.8). -/
theorem test_no_dispatch :
    ((match step { State.reset with ime := true, ie := 0x04, ifr := 0x1B } with
      | .next t => t.ifr == 0x1B && t.pc == 0x0101
      | _ => false) &&
      match step { State.reset with ime := true, ie := 0xE0, ifr := 0xE0 } with
      | .next t => t.ifr == 0xE0 && t.pc == 0x0101
      | _ => false) = true := by decide

/-- The MBC1 rows of V7: the bank of each selected value. -/
theorem test_mbc1 :
    ([(0x01, 1), (0x05, 5), (0x1F, 31), (0x00, 1), (0x20, 1), (0x25, 5)].all fun row : Byte × Nat =>
      (bankControl { State.reset with hasMBC1 := true } 0x2000 row.1).romBank == row.2 &&
        (bankControl { State.reset with hasMBC1 := true } 0x3FFF row.1).romBank == row.2 &&
        (bankControl State.reset 0x2000 row.1).romBank == 1) = true := by decide

/-- The decoder rows of 2.9 and V8: the gap, an empty slot, ROM, echo RAM, IF, and a word at the top of memory. -/
theorem test_memory :
    ((match writeByte State.reset 0xE123 0x99 with
      | .ok _ t => t.peek 0xC123 == some 0x99
      | .fault _ => false) &&
      (match writeByte State.reset 0xFEA0 0x12 with
      | .ok _ t => t.peek 0xFEA0 == some 0x00
      | .fault _ => false) &&
      (match writeByte State.reset 0xFF7F 0x34 with
      | .ok _ t => t.peek 0xFF7F == some 0xFF
      | .fault _ => false) &&
      (match writeWord State.reset 0xFFFF 0xBEEF with
      | .ok _ t => t.ie == 0xEF
      | .fault _ => false) &&
      ({ State.reset with romBank := 3 } : State).peek 0x4000 == none) = true := by decide

/-- The scanline rows of V9 that render nothing, and the one that requests VBlank. -/
theorem test_ppu_modes :
    ((ppuTick 80 State.reset).ppu == { Ppu.reset with mode := .drawing } &&
      (ppuTick 204 { State.reset with ppu := { Ppu.reset with mode := .hBlank } }).ppu == { Ppu.reset with line := 1 } &&
      (let t := ppuTick 204 { State.reset with ppu := { Ppu.reset with mode := .hBlank, line := 143 } }
       t.ppu == { Ppu.reset with line := 144, mode := .vBlank } && t.ifr == 0x01 && t.enteringVblank) &&
      (ppuTick 456 { State.reset with ppu := { Ppu.reset with line := 153, mode := .vBlank } }).ppu == Ppu.reset) = true := by
  decide

/-- The machine of 95_test_vectors.md 2.10: tile 1 at the left, tile 2 for the object, LCDC 0x93. -/
def pixelState (attr : Byte) : State :=
  { State.reset with
    ppu := { Ppu.reset with lcdc := 0x93, obp1 := ⟨0, 0, 0⟩ }
    ram := [(0x8010, 0x3C), (0x8011, 0x7E), (0x8020, 0xFF), (0x9800, 0x01), (0xFE00, 8), (0xFE01, 10), (0xFE02, 0x02),
            (0xFE03, attr)] }

/-- The shades of pixels 0..10 of line 0. -/
def shades (attr : Byte) : List Shade :=
  (List.range 11).map (composePixel (pixelState attr) 0 (sortForComposite (oamScan (pixelState attr) 0)))

/-- The renderer's rows of 2.10: an object before the background, behind it, and through OBP1. -/
theorem test_pixels :
    (shades 0x00 == [0, 2, 1, 1, 1, 1, 1, 1, 1, 1, 0] && shades 0x80 == [0, 2, 3, 3, 3, 3, 2, 1, 1, 1, 0] &&
      shades 0x10 == [0, 2, 0, 0, 0, 0, 0, 0, 0, 0, 0]) = true := by decide

/-- A placed word is the next step's instruction: LD B,n8 and SWAP A by their table words. -/
theorem test_fetch_word :
    ((match step (State.reset.withFetchWord 16 0x5A06) with
      | .next t => t.b == 0x5A && t.pc == 0x0102
      | _ => false) &&
      match step ({ State.reset with a := 0xF0 }.withFetchWord 16 0xCB37) with
      | .next t => t.a == 0x0F
      | _ => false) = true := by decide

/-! ### Witnesses: a state and operands that meet the hypotheses of each statement that has some -/

/-- The machine after reset, with a stack in WRAM, HL in WRAM, and a full MBC1 image. -/
def ready : State := { State.reset with sp := 0xDFF0, h := 0xC1, l := 0x00, hasMBC1 := true, romLen := 0x80000 }

/-- `ready` about to run the bytes, which stand at 0xC000. -/
def about (bytes : List Byte) : State := placeBytes bytes 0xC000 { ready with pc := 0xC000 }

theorem ready_inv : ready.Inv :=
  ⟨by decide, by decide, by decide, by decide, by decide, by decide, by decide, by decide, by decide, by decide,
    fun m => by cases m <;> decide, by decide, by decide⟩

theorem witness_DecodeEncodeRoundTrip :
    Instr.nop.wf = true ∧ (Instr.ldBN8 0xFF).wf = true ∧ (Instr.ldIndN16SP 0xFFFF).wf = true ∧ Instr.set7A.wf = true :=
  ⟨rfl, rfl, rfl, rfl⟩

theorem witness_EncodeDecodeRoundTrip :
    decode [0xFE, 0x3C, 0x00] = .ok (.cpN8 0x3C, [0x00]) ∧ decode [0xCB, 0xFF] = .ok (.set7A, []) := ⟨rfl, rfl⟩

theorem witness_DecodingIsTotalAndTheFirstByteFixesTheLength :
    3 ≤ ([0xCB, 0xCB, 0x00] : List Byte).length ∧ (encode (.cpN8 0x01)).head? = (encode (.cpN8 0x02)).head? ∧
      (encode .rlcB).head? = some 0xCB := ⟨by decide, rfl, rfl⟩

/-- What the step statement asks of a state and an instruction. -/
def RunsNext (s : State) (i : Instr) (op : Opcode) : Prop :=
  i.wf = true ∧ s.run = .running ∧ NoDispatch s ∧ s.halted = false ∧ opcodeOf (encode i) = some op ∧
    op ∉ s.params.unimplemented ∧ (∀ b, op = .base b → s.params.breakpoint ≠ some b) ∧ CodeAt s (encode i)

theorem witness_StepRunsTheDecodedInstruction_one_byte : RunsNext (about [0x3C]) .incA (.base 0x3C) :=
  ⟨rfl, rfl, .inl rfl, rfl, rfl, by decide, fun _ _ => nofun, fun k h => by
    match k, h with
    | 0, _ => rfl⟩

theorem witness_StepRunsTheDecodedInstruction_cb : RunsNext (about [0xCB, 0x37]) .swapA (.cb 0x37) :=
  ⟨rfl, rfl, .inl rfl, rfl, rfl, by decide, fun _ _ => nofun, fun k h => by
    match k, h with
    | 0, _ => rfl
    | 1, _ => rfl⟩

theorem witness_StepRunsTheDecodedInstruction_three_bytes : RunsNext (about [0xC3, 0x50, 0x01]) (.jpN16 0x0150) (.base 0xC3) :=
  ⟨rfl, rfl, .inl rfl, rfl, rfl, by decide, fun _ _ => nofun, fun k h => by
    match k, h with
    | 0, _ => rfl
    | 1, _ => rfl
    | 2, _ => rfl⟩

/-- An instruction that wraps from 0xFFFF (IE) to 0x0000 (ROM). -/
theorem witness_StepRunsTheDecodedInstruction_wrap :
    RunsNext { ready with pc := 0xFFFF, ie := 0x06, rom := [(0, 0x2A)] } (.ldBN8 0x2A) (.base 0x06) :=
  ⟨rfl, rfl, .inl rfl, rfl, rfl, by decide, fun _ _ => nofun, fun k h => by
    match k, h with
    | 0, _ => rfl
    | 1, _ => rfl⟩

theorem witness_StopLeavesOnlyPcAdvanced_unimplemented :
    (about [0xDD]).run = .running ∧ NoDispatch (about [0xDD]) ∧ (about [0xDD]).halted = false ∧
      CodeAt (about [0xDD]) (Opcode.base 0xDD).bytes ∧ Opcode.base 0xDD ∈ (about [0xDD]).params.unimplemented ∧
      (about [0xDD]).params.breakpoint = none :=
  ⟨rfl, .inl rfl, rfl, fun k h => by
    match k, h with
    | 0, _ => rfl, by decide, rfl⟩

/-- The breakpoint clause, on an opcode that is implemented. -/
theorem witness_StopLeavesOnlyPcAdvanced_breakpoint :
    let s : State := { about [0x40] with params := { Params.default with breakpoint := some 0x40 } }
    s.run = .running ∧ NoDispatch s ∧ s.halted = false ∧ CodeAt s (Opcode.base 0x40).bytes ∧
      s.params.breakpoint = some 0x40 ∧ Opcode.base 0x40 ∉ s.params.unimplemented :=
  ⟨rfl, .inl rfl, rfl, fun k h => by
    match k, h with
    | 0, _ => rfl, rfl, by decide⟩

theorem witness_HaltedStepOnlyTicks :
    let s : State := { ready with halted := true, ie := 0x04, ifr := 0x04 }
    s.run = .running ∧ NoDispatch s ∧ s.halted = true := ⟨rfl, .inl rfl, rfl⟩

/-- Sources 0 and 4, the first and the last. -/
theorem witness_InterruptDispatch :
    let s : State := { ready with ime := true, ie := 0x1F, ifr := 0x1F }
    let t : State := { ready with ime := true, ie := 0xFF, ifr := 0xF0 }
    (s.run = .running ∧ (s.ifr &&& s.ie).getLsbD 0 = true ∧ s.writable (s.sp - 2) = true ∧ s.writable (s.sp - 1) = true) ∧
      (t.ifr &&& t.ie).getLsbD 4 = true ∧ (∀ j, j < 4 → (t.ifr &&& t.ie).getLsbD j = false) := by
  refine ⟨⟨rfl, rfl, rfl, rfl⟩, rfl, fun j h => ?_⟩
  match j, h with
  | 0, _ => rfl
  | 1, _ => rfl
  | 2, _ => rfl
  | 3, _ => rfl

theorem witness_DispatchExactlyWhenPendingAndEnabled :
    (∃ t, cpuStep { ready with ime := true, ie := 0x01, ifr := 0x01, halted := true } = .next (t, .dispatch) ∧
      t.halted = false) ∧ cpuStep { ready with halted := true } = .next ({ ready with halted := true }, .haltIdle) :=
  ⟨⟨_, rfl, rfl⟩, rfl⟩

/-- The order of the system step, with a DMA byte, a timer request and a recorded write. -/
theorem witness_SystemStepOrder_running :
    let s : State := { ready with halted := true, periphWrites := [(0x46, 0xC0)],
                                  agentTicks := [⟨false, [.copy 0xC000 0], true, some .inTimer⟩] }
    s.run = .running ∧ cpuStep s = .next (s, .haltIdle) ∧ ∃ u, dmaTick (nextAgentTicks s) (keypadTick (nextAgentTicks s) s) = .ok () u :=
  ⟨rfl, rfl, _, rfl⟩

theorem witness_SystemStepOrder_stopped :
    (∃ t k, cpuStep (about [0xDD]) = .next (t, k) ∧ t.run = .stopped (.unimplemented (.base 0xDD))) ∧
      ({ ready with run := .stopped (.breakpoint 0x40) } : State).run = .stopped (.breakpoint 0x40) :=
  ⟨⟨_, _, rfl, rfl⟩, rfl⟩

/-- The first and the last OAM byte, and all three requests. -/
theorem witness_AgentsChangeOnlyOamAndTheirRequests :
    ∃ t, agentsTick { ready with agentTicks := [⟨true, [.write 0 0xAA, .copy 0xC100 159, .read 0xFF41], true, some .inDma⟩] } =
      .ok () t ∧ t.ifr = 0x1C := ⟨_, rfl, rfl⟩

theorem witness_StepKeepsTheInvariant : ready.Inv ∧ ∃ t, step ready = .next t := ⟨ready_inv, _, rfl⟩

theorem witness_RomAndConfigurationNeverChange : ∃ t, step ready = .next t ∧ t.run = .running := ⟨_, rfl, rfl⟩

theorem witness_NoFaultWhenTheImageCoversEveryBank : ready.Inv ∧ ready.slots = resetSlots ∧ 0x80000 ≤ ready.romLen := ⟨ready_inv, rfl, by decide⟩

theorem witness_OnlyTheseWriteImeAndHalted :
    (∃ t, exec .ei ready = .next t ∧ t.ime ≠ ready.ime) ∧ ∃ t, exec .halt ready = .next t ∧ t.halted ≠ ready.halted :=
  ⟨⟨_, rfl, by decide⟩, _, rfl, by decide⟩

theorem witness_OnlyListedInstructionsWriteFlags :
    (¬ WritesFlags .pushAF ∧ ∃ t, exec .pushAF ready = .next t) ∧ ¬ WritesFlags .popBC ∧ ∃ t, exec .popBC ready = .next t := by
  refine ⟨⟨fun h => ?_, _, rfl⟩, fun h => ?_, _, rfl⟩
  · generalize hi : Instr.pushAF = i at h
    cases h <;> first | cases hi | (rename_i x; cases x <;> cases hi) | (rename_i x y; cases x <;> cases y <;> cases hi)
  · generalize hi : Instr.popBC = i at h
    cases h <;> first | cases hi | (rename_i x; cases x <;> cases hi) | (rename_i x y; cases x <;> cases y <;> cases hi)

theorem witness_FlagByteAndRegisterPairs : RP2.hl ≠ RP2.af := by decide

/-- Every range of the read decoder at both its ends, in the image and beyond it. -/
theorem witness_ReadByteDecodesTheAddress :
    ((readByte ready 0x0000).value = some 0x00 ∧ (readByte ready 0x3FFF).value = some 0x00) ∧
      (readByte { ready with romLen := 0x3FFF } 0x3FFF).value = none ∧
      ready.romBank * 0x4000 + (0x7FFF - 0x4000) < ready.romLen ∧
      (readByte { ready with romLen := 0x7FFF } 0x7FFF).value = none ∧
      (region 0x4000 = .romBanked ∧ region 0x7FFF = .romBanked) ∧ (region 0x8000 = .vram ∧ region 0xDFFF = .wram1) ∧
      (region 0xE000 = .echo ∧ region 0xFDFF = .echo) ∧ (region 0xFE00 = .oam ∧ region 0xFE9F = .oam) ∧
      (region 0xFEA0 = .gap ∧ region 0xFEFF = .gap) ∧ (region 0xFF00 = .io ∧ region 0xFF7F = .io) ∧
      (region 0xFF80 = .hram ∧ region 0xFFFE = .hram) ∧ region 0xFFFF = .ieSlot := by
  refine ⟨⟨rfl, rfl⟩, rfl, by decide, rfl, ⟨rfl, rfl⟩, ⟨rfl, rfl⟩, ⟨rfl, rfl⟩, ⟨rfl, rfl⟩, ⟨rfl, rfl⟩, ⟨rfl, rfl⟩,
    ⟨rfl, rfl⟩, rfl⟩

/-- Every range of the write decoder: the ends of the bank select and of RAM. -/
theorem witness_WriteByteDecodesTheAddress :
    writeByte ready 0x1FFF 0x05 = .ok () ready ∧ writeByte ready 0x2000 0x05 = .ok () { ready with romBank := 5 } ∧
      writeByte ready 0x3FFF 0x00 = .ok () ready ∧ writeByte ready 0x4000 0x05 = .ok () ready ∧
      writeByte ready 0x7FFF 0x05 = .ok () ready ∧ writeByte ready 0x8000 0x05 = .ok () { ready with ram := [(0x8000, 5)] } ∧
      writeByte ready 0xFDFF 0x05 = .ok () { ready with ram := [(0xDDFF, 5)] } ∧
      writeByte ready 0xFEA0 0x05 = .ok () ready ∧ writeByte ready 0xFF0F 0x05 = .ok () { ready with ifr := 5 } ∧
      writeByte ready 0xFFFE 0x05 = .ok () { ready with ram := [(0xFFFE, 5)] } ∧
      writeByte ready 0xFFFF 0x05 = .ok () { ready with ie := 5 } :=
  ⟨rfl, rfl, rfl, rfl, rfl, rfl, rfl, rfl, rfl, rfl, rfl⟩

/-- Each clause of the multiplexer: a full entry, a read-only and a write-only one, an empty slot, an empty IE slot. -/
theorem witness_SlotMultiplexer :
    lookupSlot resetSlots (.io 0x0F) = some ⟨.io 0x0F, .cpu, some .interruptFlags, some .interruptFlags⟩ ∧
      lookupSlot [⟨.io 0x7F, .cpu, none, some .external⟩] (.io 0x7F) = some ⟨.io 0x7F, .cpu, none, some .external⟩ ∧
      lookupSlot [⟨.io 0x7F, .cpu, some .external, none⟩] (.io 0x7F) = some ⟨.io 0x7F, .cpu, some .external, none⟩ ∧
      lookupSlot resetSlots (.io 0x7F) = none ∧ Slot.io 0x7F ≠ .ie ∧ lookupSlot [] .ie = none :=
  ⟨rfl, rfl, rfl, rfl, by decide, rfl⟩

theorem witness_SlotTableConstruction :
    (⟨.ie, .cpu, some .interruptEnable, some .interruptEnable⟩ : SlotEntry) ∈ resetSlots ∧
      ∀ e ∈ resetSlots, e.slot ≠ .io 0x7F := by decide

theorem witness_CpuAndPpuRegistersReadAndWrite : ready.slots = resetSlots := rfl

theorem witness_StatAndPeripheralSlots :
    ready.slots = resetSlots ∧ 0x00 ∈ [0x00, 0x01, 0x02, 0x04, 0x05, 0x06, 0x07, 0x46] ∧
      0x46 ∈ [0x00, 0x01, 0x02, 0x04, 0x05, 0x06, 0x07, 0x46] := ⟨rfl, by decide, by decide⟩

/-- A word at the top of memory: the low byte at 0xFFFF (IE), the high byte at 0x0000 (ROM). -/
theorem witness_WordAccessIsTwoByteAccesses :
    readByte ready 0xFFFF = .ok 0x00 ready ∧ readByte ready (0xFFFF + 1) = .ok 0x00 ready ∧
      readWord ready 0xFFFF = .ok 0x0000 ready ∧ writeWord ready 0xFFFF 0xBEEF = .ok () { ready with ie := 0xEF } :=
  ⟨rfl, rfl, rfl, rfl⟩

theorem witness_ReadAfterWriteAndEcho :
    isStorage (homeAddr 0xC000) = true ∧ isStorage (homeAddr 0xDDFF) = true ∧ isStorage (homeAddr 0xE000) = true ∧
      isStorage (homeAddr 0xFDFF) = true ∧ isStorage (homeAddr 0x8000) = true ∧ isStorage (homeAddr 0xFFFE) = true := by
  decide

/-- A RAM write leaves its neighbours; a bank select, a write of LY and a peripheral's write complete. -/
theorem witness_WriteByteFrame :
    (∃ t, writeByte ready 0xC000 0x05 = .ok () t ∧ ready.touches 0xC000 0xC001 = false ∧ ready.touches 0xC000 0xE001 = false) ∧
      (∃ t, writeByte ready 0x2000 0x05 = .ok () t ∧ t.romBank ≠ ready.romBank) ∧
      (∃ t, writeByte ready 0xFF46 0xC0 = .ok () t ∧ t.periphWrites ≠ ready.periphWrites) ∧ (0xFF43 : Word) ≠ 0xFF44 :=
  ⟨⟨_, rfl, rfl, rfl⟩, ⟨_, rfl, by decide⟩, ⟨_, rfl, by decide⟩, by decide⟩

theorem witness_BankSelectMovesTheWindow :
    ready.hasMBC1 = true ∧ max 1 ((0x1F : Byte).toNat % 32) * 0x4000 + ((0x7FFF : Word).toNat - 0x4000) < ready.romLen ∧
      max 1 ((0x00 : Byte).toNat % 32) * 0x4000 + ((0x4000 : Word).toNat - 0x4000) < ready.romLen := by decide

theorem witness_ByteLoads :
    (LoadsByte ready (.ldFromHL .b) .b ready.hl ∧ LoadsByte ready .ldAIndBC .a ready.bc ∧ LoadsByte ready .ldAIndDE .a ready.de ∧
      LoadsByte ready (.ldAIndN16 0xFFFF) .a 0xFFFF ∧ LoadsByte ready (.ldhAIndN8 0x41) .a (0xFF00 + (0x41 : Byte).setWidth 16) ∧
      LoadsByte ready .ldAIndC .a (0xFF00 + ready.c.setWidth 16)) ∧
      ready.readable ready.hl = true ∧ ready.readable ready.bc = true ∧ ready.readable ready.de = true ∧
      ready.readable 0xFFFF = true ∧ ready.readable (0xFF00 + (0x41 : Byte).setWidth 16) = true ∧
      ready.readable (0xFF00 + ready.c.setWidth 16) = true ∧ ready.drawsAt 0xC000 = false :=
  ⟨⟨.fromHL .b, .fromBC, .fromDE, .fromN16 _, .highN8 _, .highC⟩, rfl, rfl, rfl, rfl, rfl, rfl, rfl⟩

theorem witness_ByteStores :
    (StoresByte ready (.ldToHL .h) ready.hl ready.h ∧ StoresByte ready (.ldIndHLN8 0x5A) ready.hl 0x5A ∧
      StoresByte ready .ldIndBCA ready.bc ready.a ∧ StoresByte ready .ldIndDEA ready.de ready.a ∧
      StoresByte ready (.ldIndN16A 0xFFFF) 0xFFFF ready.a ∧ StoresByte ready (.ldhIndN8A 0x41) (0xFF00 + (0x41 : Byte).setWidth 16) ready.a ∧
      StoresByte ready .ldIndCA (0xFF00 + ready.c.setWidth 16) ready.a) ∧
      ready.writable ready.hl = true ∧ ready.writable ready.bc = true ∧ ready.writable ready.de = true ∧
      ready.writable 0xFFFF = true ∧ ready.writable (0xFF00 + (0x41 : Byte).setWidth 16) = true ∧
      ready.writable (0xFF00 + ready.c.setWidth 16) = true ∧ ready.slots = resetSlots ∧
      ready.touches 0xFFFF 0xFFFE = false :=
  ⟨⟨.toHL .h, .immHL _, .toBC, .toDE, .toN16 _, .highN8 _, .highC⟩, rfl, rfl, rfl, rfl, rfl, rfl, rfl, rfl⟩

theorem witness_HLStepLoadsAndStores :
    ready.writable ready.hl = true ∧ ready.readable ready.hl = true ∧ ready.slots = resetSlots ∧
      ready.touches ready.hl (ready.hl + 1) = false := ⟨rfl, rfl, rfl, rfl⟩

/-- The boundary of the sign: 0x7F and 0x80. -/
theorem witness_StackPointerPlusSignedByte :
    (0xFFF8 : Word) + (if (0x7F : Byte).toNat < 0x80 then BitVec.ofNat 16 (0x7F : Byte).toNat else
      BitVec.ofNat 16 ((0x7F : Byte).toNat + 0xFF00)) = 0x0077 ∧
    (0x1000 : Word) + (if (0x80 : Byte).toNat < 0x80 then BitVec.ofNat 16 (0x80 : Byte).toNat else
      BitVec.ofNat 16 ((0x80 : Byte).toNat + 0xFF00)) = 0x0F80 := by decide

theorem witness_StackPointerStore :
    ready.writable 0xC000 = true ∧ ready.writable (0xC000 + 1) = true ∧ ready.writable 0xFFFF = true ∧
      ready.writable (0xFFFF + 1) = true ∧ ready.wordTouches 0xC000 0xC002 = false := ⟨rfl, rfl, rfl, rfl, rfl⟩

theorem witness_PushesAndCalls :
    (Pushes ready (.push .af) ready.af ready.pc ∧ Pushes ready (.callN16 0x2000) ready.pc 0x2000 ∧
      Pushes ready (.callCond .z 0x2000) ready.pc 0x2000 ∧ Pushes ready (.rst .t7) ready.pc 0x0038) ∧
      ready.writable (ready.sp - 2) = true ∧ ready.writable (ready.sp - 1) = true ∧ ready.slots = resetSlots ∧
      ready.wordTouches (ready.sp - 2) ready.sp = false :=
  ⟨⟨.pair .af, .call _, .callCond .z _ rfl, .rst .t7⟩, rfl, rfl, rfl, rfl⟩

theorem witness_Pops : ready.readable ready.sp = true ∧ ready.readable (ready.sp + 1) = true ∧ ready.drawsAt 0xFF40 = false :=
  ⟨rfl, rfl, rfl⟩

theorem witness_Returns :
    ready.readable ready.sp = true ∧ ready.readable (ready.sp + 1) = true ∧ condHolds .z ready ∧ condHolds .c ready ∧
      ¬ condHolds .nz ready ∧ ¬ condHolds .nc ready := by
  refine ⟨rfl, rfl, rfl, rfl, fun h => ?_, fun h => ?_⟩ <;> cases h

theorem witness_AddAndAddWithCarry :
    AluOperand ready (.aluR .adc .h) .adc ready.h ∧ 1 = ready.fC.toNat ∧ 0xC3 = ready.a.toNat + ready.h.toNat + 1 :=
  ⟨.reg .adc .h, rfl, rfl⟩

theorem witness_SubtractAndCompare :
    AluOperand ready (.aluN .sbc 0xFF) .sbc 0xFF ∧ 1 = ready.fC.toNat ∧
      (-255 : Int) = (ready.a.toNat : Int) - (0xFF : Byte).toNat - (1 : Nat) := ⟨.imm .sbc _, rfl, by decide⟩

theorem witness_LogicalOperations :
    AluOperand ready (.aluN .xor 0xFF) .xor 0xFF ∧ (0xFE : Byte) = ready.a ^^^ 0xFF := ⟨.imm .xor _, by decide⟩

theorem witness_AluWithMemoryOperand : ready.readable ready.hl = true := rfl

theorem witness_ReadModifyWriteAtHL :
    (∃ f g, ModifiesHL ready .incIndHL f g) ∧ (∃ f g, ModifiesHL ready .decIndHL f g) ∧
      (∃ f g, ModifiesHL ready (.rotHL .swap) f g) ∧ (∃ f g, ModifiesHL ready (.resHL .b7) f g) ∧
      (∃ f g, ModifiesHL ready (.setHL .b0) f g) ∧ ready.readable ready.hl = true ∧ ready.writable ready.hl = true ∧
      ready.slots = resetSlots ∧ ready.touches ready.hl 0xC000 = false ∧ ready.drawsAt 0xC000 = false :=
  ⟨⟨_, _, .inc⟩, ⟨_, _, .dec⟩, ⟨_, _, .rot .swap⟩, ⟨_, _, .res .b7⟩, ⟨_, _, .set .b0⟩, rfl, rfl, rfl, rfl, rfl⟩

/-- A DAA case with both corrections: A = 0x9A, no carry in. -/
theorem witness_DaaAndFlagOperations :
    let s : State := { ready with a := 0x9A, fH := false, fC := false }
    0xA0 = (if (s.a &&& 0xF).toNat > 9 ∨ s.fH = true then (s.a.toNat + 0x06) % 256 else s.a.toNat) ∧
      true = (decide (0xA0 / 16 > 9) || s.fC) ∧ 0x00 = (if true = true then (0xA0 + 0x60) % 256 else 0xA0) := by decide

theorem witness_SixteenBitArithmetic :
    (0xC213 : Nat) = ready.hl.toNat + (0x0113 : Nat) ∧ (0xC113 : Nat) = ready.hl.toNat + (ready.rp .bc).toNat := by decide

theorem witness_BitResSet : ready.readable ready.hl = true ∧ (7 : Nat) < 8 := ⟨rfl, by decide⟩

/-- Both signs of a relative jump, and a condition that holds and one that does not. -/
theorem witness_JumpsAndUntakenCalls :
    (0x0105 : Word) = { ready with pc := 0x0107 }.pc + (if (0xFE : Byte).toNat < 0x80 then BitVec.ofNat 16 (0xFE : Byte).toNat
      else BitVec.ofNat 16 ((0xFE : Byte).toNat + 0xFF00)) ∧ condHolds .z ready ∧ ¬ condHolds .nz ready := by
  refine ⟨by decide, rfl, fun h => ?_⟩
  cases h

/-- An opcode that `Implemented` excludes and a run in which it does not. -/
theorem witness_StopAndUnassignedEndTheRun :
    ((0xFD : Byte), Instr.unassignedFD) ∈ Instr.unassigned ∧ Opcode.base 0xFD ∈ ready.params.unimplemented ∧
      Opcode.base 0x10 ∈ ready.params.unimplemented ∧
      Opcode.base 0x10 ∉ ({ Params.default with unimplemented := [] } : Params).unimplemented := by decide

theorem witness_PrefixRunsTheCbInstruction :
    decode [0xCB, 0x46] = .ok (.bit0IndHL, []) ∧ ready.readable ready.hl = true ∧ ready.writable ready.hl = true :=
  ⟨rfl, rfl, rfl⟩

/-- Each transition's mode, at the lines where the clauses meet: 142, 143, 152, 153. -/
theorem witness_PpuTransitions :
    let at_ := fun (m : PpuMode) (line : Nat) => ({ ready with ppu := { Ppu.reset with mode := m, line := line } } : State)
    (at_ .oamSearch 0).ppu.mode = .oamSearch ∧ (at_ .drawing 0).ppu.mode = .drawing ∧
      ((at_ .hBlank 142).ppu.mode = .hBlank ∧ (at_ .hBlank 142).ppu.line ≠ 143) ∧ (at_ .hBlank 143).ppu.line = 143 ∧
      ((at_ .vBlank 152).ppu.mode = .vBlank ∧ (at_ .vBlank 152).ppu.line ≠ 153) ∧ (at_ .vBlank 153).ppu.line = 153 := by
  decide

theorem witness_ATickOfALineAdvancesOneLine :
    (∀ m, 0 < budget ready.params m) ∧ ready.ppu.mode = .oamSearch ∧ ready.ppu.counter = 0 ∧ ready.ppu.line < 143 ∧
      ({ ready with ppu := { Ppu.reset with line := 143 } } : State).ppu.line = 143 :=
  ⟨fun m => by cases m <;> decide, rfl, rfl, by decide, rfl⟩

/-- The first and the last pixel of a row, and the bytes just outside row 1. -/
theorem witness_RenderLineWritesOnlyItsRow : 0 < 160 ∧ 159 < 160 ∧ 639 < 4 * 160 * 1 ∧ 4 * 160 * (1 + 1) ≤ 1280 := by decide

/-- An object on the line: entry 0 of the renderer's state, at the top of its eight lines. -/
theorem witness_ObjectScanAndSort :
    oamEntry (pixelState 0) 0 ∈ oamScan (pixelState 0) 0 ∧
      (oamEntry (pixelState 0) 0).y ≤ 0 + objYOffset (pixelState 0) ∧
      0 + objYOffset (pixelState 0) < (oamEntry (pixelState 0) 0).y + objHeight (pixelState 0) := by decide

/-- An object that shows over pixel 2 (its priority bit clear), one hidden there, objects off, and a palette's shade. -/
theorem witness_LastShowingObjectWins :
    (pixelState 0).ppu.objEnable = true ∧ State.reset.ppu.objEnable = false ∧
      objPixel (pixelState 0) (oamEntry (pixelState 0) 0) 0 2 = some 1 ∧ (1 : BitVec 2) ≠ 0 ∧
      (oamEntry (pixelState 0) 0).attr.getLsbD 7 = false ∧
      ((oamEntry (pixelState 0x80) 0).attr.getLsbD 7 = true ∧ (bgPixel (pixelState 0x80) 0 2).1 ≠ 0) ∧
      (if (oamEntry (pixelState 0) 0).attr.getLsbD 4 = true then (pixelState 0).ppu.obp1 else (pixelState 0).ppu.obp0).shade 1 =
        some 1 := by decide

/-- The fetches meet their hypotheses at the edges: outside the object's columns on both sides, its first column and row as they
are and flipped, and at height 16 both halves; a background tile below and one from 0x80 on, at the scroll's wrap. -/
theorem witness_LastShowingObjectWins_fetch :
    let plain := oamEntry (pixelState 0) 0
    let flipped := oamEntry (pixelState 0x60) 0
    let tall : State := { pixelState 0 with ppu := { (pixelState 0).ppu with lcdc := 0x97 } }
    let scrolled : State := { pixelState 0 with ppu := { Ppu.reset with scy := 0xFF, scx := 0xFF, lcdc := 0x83 },
                                                ram := [(0x9000, 0xFF), (0x9800, 0x80)] }
    (1 + 8 < plain.x ∧ plain.x ≤ 10) ∧
      (0 + objYOffset (pixelState 0) = plain.y + 0 ∧ 2 + 8 = plain.x + 0 ∧ plain.attr.getLsbD 6 = false) ∧
      (0 + objYOffset (pixelState 0x60) = flipped.y + 0 ∧ flipped.attr.getLsbD 6 = true ∧ flipped.attr.getLsbD 5 = true) ∧
      (0 + objYOffset tall = plain.y + 8 ∧ 8 < 16 ∧ tall.ppu.lcdc.getLsbD 2 = true ∧ 16 - 1 - 8 < 8) ∧
      ((1 + scrolled.ppu.scy.toNat) % 256 = 0 ∧ scrolled.ram.read (0x9800 + 32 * (0 / 8) + 0 / 8) = 0x80 ∧
        scrolled.ppu.lcdc.getLsbD 4 = false) := by decide

/-- The pixels of an object's row, plain and flipped both ways (48_ppu.md R1225, R1226): the bytes 0x0F and 0x01 of row 0 give
0, 0, 0, 0, 1, 1, 1, 3. -/
theorem test_object_flips :
    let row := fun attr : Byte =>
      let s := { pixelState attr with ram := [(0x8020, 0x0F), (0x8021, 0x01), (0x802E, 0x80)] }
      (List.range 8).map fun i => objPixel s (oamEntry (pixelState attr) 0) 0 (i + 2)
    row 0 = [0, 0, 0, 0, 1, 1, 1, 3].map some ∧ row 0x20 = [3, 1, 1, 1, 0, 0, 0, 0].map some ∧
      row 0x40 = [1, 0, 0, 0, 0, 0, 0, 0].map some := by decide

/-- Exactly the conditional transfers, 0xCB and the unassigned opcodes have no single count (70_reset_and_hazards.md R1430). -/
theorem test_single_counts :
    ((List.range 256).map (BitVec.ofNat 8)).filter (fun b => singleCount b == 0) =
      [0x20, 0x28, 0x30, 0x38, 0xC0, 0xC2, 0xC4, 0xC8, 0xCA, 0xCB, 0xCC, 0xD0, 0xD2, 0xD3, 0xD4, 0xD8, 0xDA, 0xDB, 0xDC,
        0xDD, 0xE3, 0xE4, 0xEB, 0xEC, 0xED, 0xF4, 0xFC, 0xFD] := by decide

/-- A base opcode with one count, and an unconditional transfer. -/
theorem witness_CyclesOfAStep : singleCount 0x08 ≠ 0 ∧ singleCount 0xFB ≠ 0 ∧ branchTaken (.base 0xC3) ready = true := by decide

end Sys2Proof.Tests
end

section
/-! ## The registers: reset values, F and the pairs, the slot table, and the registers behind it -/

namespace Sys2Proof.Machine

open Sys2Proof

/-! ### Reset -/

/-- Settles O14: `State.reset` transcribes R130, so each value is read off it. -/
theorem resetValues : Obligations.ResetValues := by
  unfold Obligations.ResetValues
  decide

/-! ### F and the pairs -/

/-- The bits of F, and that its low four bits read 0 (10_state.md R101). -/
theorem f_bits (s : State) :
    s.f.getLsbD 7 = s.fZ ∧ s.f.getLsbD 6 = s.fN ∧ s.f.getLsbD 5 = s.fH ∧ s.f.getLsbD 4 = s.fC ∧ s.f &&& 0x0F = 0 := by
  unfold State.f
  cases s.fZ <;> cases s.fN <;> cases s.fH <;> cases s.fC <;> decide

/-- F written reads as the value less its low four bits (10_state.md R101). -/
theorem f_setF (s : State) (v : Byte) : (s.setF v).f = v &&& 0xF0 := by
  show BitVec.ofBool (v.getLsbD 7) ++ BitVec.ofBool (v.getLsbD 6) ++ BitVec.ofBool (v.getLsbD 5) ++
    BitVec.ofBool (v.getLsbD 4) ++ (0 : BitVec 4) = v &&& 0xF0
  revert v
  decide

/-- Masking the low byte of a word. -/
theorem wordOf_and_low (hi lo m : Byte) : wordOf hi (lo &&& m) = wordOf hi lo &&& wordOf 0xFF m := by
  unfold wordOf
  rw [BitVec.and_append, show hi &&& 0xFF = hi from BitVec.and_allOnes]

theorem af_setAF (s : State) (v : Word) : (s.setAF v).af = v &&& 0xFFF0 := by
  show wordOf (hiByte v) (({ s with a := hiByte v } : State).setF (loByte v)).f = v &&& 0xFFF0
  rw [f_setF, wordOf_and_low, wordOf_hiByte_loByte]
  rfl

/-- A pair of PUSH and POP other than AF written reads as the value. -/
theorem rp2_setRP2_same {p : RP2} (hp : p ≠ .af) (s : State) (v : Word) : (s.setRP2 p v).rp2 p = v := by
  cases p with
  | bc => exact rp_setRP_same s .bc v
  | de => exact rp_setRP_same s .de v
  | hl => exact rp_setRP_same s .hl v
  | af => exact absurd rfl hp

/-- Settles O21: each pair is `wordOf` of its two registers, and F of its four flags. -/
theorem flagByteAndRegisterPairs : Obligations.FlagByteAndRegisterPairs := by
  unfold Obligations.FlagByteAndRegisterPairs
  intro s v
  exact ⟨f_bits s, toNat_wordOf _ _, toNat_wordOf _ _, toNat_wordOf _ _, toNat_wordOf _ _,
    fun p => rp_setRP_same s p v, af_setAF s v, fun _ hp => rp2_setRP2_same hp s v⟩

/-! ### The slot table -/

/-- A slot that some entry claims is found. -/
theorem lookupSlot_of_mem {slots : List SlotEntry} {e : SlotEntry} (h : e ∈ slots) :
    ∃ e', lookupSlot slots e.slot = some e' :=
  Option.isSome_iff_exists.1 (List.find?_isSome.2 ⟨e, h, by simp⟩)

/-- A slot that no entry claims is not found. -/
theorem lookupSlot_eq_none {slots : List SlotEntry} {slot : Slot} (h : ∀ e ∈ slots, e.slot ≠ slot) :
    lookupSlot slots slot = none :=
  List.find?_eq_none.2 fun e he => by simpa using h e he

/-- Settles O25: the construction evaluates to the table, and registration looks the slot up first. -/
theorem slotTableConstruction : Obligations.SlotTableConstruction := by
  unfold Obligations.SlotTableConstruction
  refine ⟨rfl, fun slots e new he hslot => ?_, fun slots new hfree => ?_⟩
  · obtain ⟨e', h⟩ := lookupSlot_of_mem he
    exact registerIoHandler_claimed slots new e' (hslot ▸ h)
  · exact registerIoHandler_free slots new (lookupSlot_eq_none hfree)

/-! ### The registers behind the slots -/

theorem readByte_of_io {s : State} {addr : Word} (h : region addr = .io) :
    readByte s addr = slotRead s (.io (addr.toNat - 0xFF00)) := by
  unfold readByte; rw [h]

theorem writeByte_of_io {s : State} {addr : Word} (h : region addr = .io) (v : Byte) :
    writeByte s addr v = slotWrite s (.io (addr.toNat - 0xFF00)) v := by
  unfold writeByte; rw [h]

/-- A slot with both callbacks of one register reads and writes that register (20_memory.md R203). -/
theorem slot_access {s : State} {slot : Slot} {o : Owner} {h : Handler}
    (hl : lookupSlot s.slots slot = some ⟨slot, o, some h, some h⟩) (v : Byte) :
    slotRead s slot = handlerRead h slot s ∧ slotWrite s slot v = .ok () (handlerWrite h slot v s) := by
  unfold slotRead slotWrite
  rw [hl]
  exact ⟨rfl, rfl⟩

/-- An access to 0xFF00 + n runs the callbacks of the register that the default table puts into slot n. -/
theorem ioRegister_access {s : State} (hs : s.slots = resetSlots) {n : Nat} {o : Owner} {h : Handler} (hn : n < 0x80)
    (hl : lookupSlot resetSlots (.io n) = some ⟨.io n, o, some h, some h⟩) (v : Byte) :
    readByte s (BitVec.ofNat 16 (0xFF00 + n)) = handlerRead h (.io n) s ∧
      writeByte s (BitVec.ofNat 16 (0xFF00 + n)) v = .ok () (handlerWrite h (.io n) v s) := by
  have hn' : (BitVec.ofNat 16 (0xFF00 + n)).toNat = 0xFF00 + n := by simp; omega
  have hr : region (BitVec.ofNat 16 (0xFF00 + n)) = .io :=
    region_of .io (by simp only [hn', Region.bounds]; omega) (by simp only [hn', Region.bounds]; omega)
  rw [readByte_of_io hr, writeByte_of_io hr, hn', Nat.add_sub_cancel_left]
  exact slot_access (hs ▸ hl) v

/-- An access to 0xFFFF runs the callbacks of IE (10_state.md R111). -/
theorem ieRegister_access {s : State} (hs : s.slots = resetSlots) (v : Byte) :
    readByte s 0xFFFF = .ok s.ie s ∧ writeByte s 0xFFFF v = .ok () { s with ie := v } :=
  slot_access (s := s) (slot := .ie) (o := .cpu) (h := .interruptEnable) (by rw [hs]; rfl) v

/-- LCDC packs its eight booleans, bit 7 first (10_state.md R120). -/
theorem lcdc_packs (p : Ppu) :
    p.lcdc = BitVec.ofBool p.lcdEnable ++ BitVec.ofBool p.winMapSelect ++ BitVec.ofBool p.winEnable ++
      BitVec.ofBool p.tileDataSelect ++ BitVec.ofBool p.bgMapSelect ++ BitVec.ofBool p.objSize ++
      BitVec.ofBool p.objEnable ++ BitVec.ofBool p.bgEnable := by
  unfold Ppu.lcdEnable Ppu.winMapSelect Ppu.winEnable Ppu.tileDataSelect Ppu.bgMapSelect Ppu.objSize Ppu.objEnable
    Ppu.bgEnable
  generalize p.lcdc = v
  revert v
  decide

/-- Settles O26: each address reaches the callbacks of its register in the default table. -/
theorem cpuAndPpuRegistersReadAndWrite : Obligations.CpuAndPpuRegistersReadAndWrite := by
  unfold Obligations.CpuAndPpuRegistersReadAndWrite
  intro s v hs
  exact ⟨ioRegister_access hs (n := 0x0F) (by decide) rfl v, ieRegister_access hs v,
    ioRegister_access hs (n := 0x40) (by decide) rfl v, ioRegister_access hs (n := 0x42) (by decide) rfl v,
    ioRegister_access hs (n := 0x43) (by decide) rfl v, ioRegister_access hs (n := 0x44) (by decide) rfl v,
    ioRegister_access hs (n := 0x45) (by decide) rfl v, ioRegister_access hs (n := 0x47) (by decide) rfl v,
    ioRegister_access hs (n := 0x48) (by decide) rfl v, ioRegister_access hs (n := 0x49) (by decide) rfl v,
    ioRegister_access hs (n := 0x4A) (by decide) rfl v, ioRegister_access hs (n := 0x4B) (by decide) rfl v,
    lcdc_packs s.ppu⟩

/-- The default table gives each peripheral slot to an external agent, with both callbacks (10_state.md R116). -/
theorem lookupSlot_peripheral : ∀ n ∈ Config.peripheralSlots, n < 0x80 ∧
    lookupSlot resetSlots (.io n) = some ⟨.io n, peripheralOwner n, some .external, some .external⟩ := by
  decide

/-- Settles O27: STAT's slot has the callbacks of STAT, a peripheral's those of an external agent. -/
theorem statAndPeripheralSlots : Obligations.StatAndPeripheralSlots := by
  unfold Obligations.StatAndPeripheralSlots
  intro s n v hs hn
  obtain ⟨hlt, hl⟩ := lookupSlot_peripheral n hn
  obtain ⟨hsr, hsw⟩ := ioRegister_access hs (n := 0x41) (by decide) rfl v
  obtain ⟨hpr, hpw⟩ := ioRegister_access hs hlt hl v
  exact ⟨hsr, hsw, hpr, hpw⟩

end Sys2Proof.Machine
end

section
/-! ## Which instructions write the flags and the modes -/

namespace Sys2Proof.Machine

open Sys2Proof

/-! ### Flags and modes of a state -/

/-- IME and the halted state (10_state.md R108, R112). -/
def State.modes (s : State) : Bool × Bool := (s.ime, s.halted)

/-- The four flags (10_state.md R105). -/
def State.flags (s : State) : Bool × Bool × Bool × Bool := (s.fZ, s.fN, s.fH, s.fC)

/-- What the instructions compared here may write or leave alone: modes and flags. -/
def State.control (s : State) : (Bool × Bool) × Bool × Bool × Bool × Bool := (s.modes, s.flags)

theorem modes_eq_iff {s t : State} : t.modes = s.modes ↔ t.ime = s.ime ∧ t.halted = s.halted := by
  simp [State.modes]

theorem flags_eq_iff {s t : State} :
    t.flags = s.flags ↔ t.fZ = s.fZ ∧ t.fN = s.fN ∧ t.fH = s.fH ∧ t.fC = s.fC := by
  simp [State.flags]

theorem control_eq_iff {s t : State} : t.control = s.control ↔ t.modes = s.modes ∧ t.flags = s.flags := by
  simp [State.control]

@[simp] theorem setR8_control (s : State) (r : R8) (v : Byte) : (s.setR8 r v).control = s.control := by cases r <;> rfl
@[simp] theorem setRP_control (s : State) (p : RP) (v : Word) : (s.setRP p v).control = s.control := by cases p <;> rfl
@[simp] theorem setHL_control (s : State) (v : Word) : (s.setHL v).control = s.control := rfl
@[simp] theorem setSP_control (s : State) (v : Word) : (s.setSP v).control = s.control := rfl
@[simp] theorem setPC_control (s : State) (v : Word) : (s.setPC v).control = s.control := rfl
@[simp] theorem raiseStop_control (s : State) (r : StopReason) : (raiseStop r s).control = s.control := rfl

@[simp] theorem setR8_modes (s : State) (r : R8) (v : Byte) : (s.setR8 r v).modes = s.modes := by cases r <;> rfl
@[simp] theorem setRP2_modes (s : State) (p : RP2) (v : Word) : (s.setRP2 p v).modes = s.modes := by cases p <;> rfl
@[simp] theorem flagged_modes (s : State) (r : Flagged) : (s.flagged r).modes = s.modes := rfl
@[simp] theorem shiftFlags_modes (s : State) (r : Shifted) : (s.shiftFlags r).modes = s.modes := rfl
@[simp] theorem bitFlags_modes (s : State) (n : Nat) (v : Byte) : (s.bitFlags n v).modes = s.modes := rfl
@[simp] theorem aluEffect_modes (op : AluOp) (x : Byte) (s : State) : (aluEffect op x s).modes = s.modes := by
  cases op <;> rfl

/-- POP writes the flags only as the low byte of AF (10_state.md R106). -/
theorem setRP2_control {p : RP2} (hp : p ≠ .af) (s : State) (v : Word) : (s.setRP2 p v).control = s.control := by
  cases p
  case af => exact absurd rfl hp
  all_goals rfl

/-! ### No access writes a flag or a mode -/

theorem readByte_control {s t : State} {addr : Word} {v : Byte} (e : readByte s addr = .ok v t) :
    t.control = s.control := by
  rw [readByte_ok e]; rfl

theorem writeByte_control {s t : State} {addr : Word} {v : Byte} (e : writeByte s addr v = .ok () t) :
    t.control = s.control := by
  rw [writeByte_ok e]; rfl

theorem writeWord_control {s t : State} {addr v : Word} (e : writeWord s addr v = .ok () t) : t.control = s.control := by
  obtain ⟨_, -, -, h⟩ := writeWord_ok e
  rw [h]; rfl

theorem push16_control {s t : State} {v : Word} (e : push16 s v = .ok () t) : t.control = s.control := by
  rw [(push16_ok e).2]; rfl

theorem pop16_control {s t : State} {v : Word} (e : pop16 s = .ok v t) : t.control = s.control := by
  obtain ⟨s1, -, h, rfl⟩ := pop16_ok e
  rw [h]; rfl

theorem readByte_modes {s t : State} {addr : Word} {v : Byte} (e : readByte s addr = .ok v t) : t.modes = s.modes :=
  (control_eq_iff.1 (readByte_control e)).1

theorem writeByte_modes {s t : State} {addr : Word} {v : Byte} (e : writeByte s addr v = .ok () t) :
    t.modes = s.modes :=
  (control_eq_iff.1 (writeByte_control e)).1

/-! ### The shared operations that write neither -/

theorem loadByte_control {r : R8} {addr : Word} {s t : State} (e : loadByte r addr s = .next t) :
    t.control = s.control := by
  obtain ⟨v, s1, h, e⟩ := finish_eq_next.1 e
  cases e
  simp [readByte_control h]

theorem storeByte_control {addr : Word} {v : Byte} {s t : State} (e : storeByte addr v s = .next t) :
    t.control = s.control := by
  obtain ⟨⟨⟩, s1, h, e⟩ := finish_eq_next.1 e
  cases e
  exact writeByte_control h

theorem loadAndStep_control {delta : Word} {s t : State} (e : loadAndStep delta s = .next t) :
    t.control = s.control := by
  obtain ⟨v, s1, h, e⟩ := finish_eq_next.1 e
  cases e
  simp [readByte_control h]

theorem storeAndStep_control {delta : Word} {s t : State} (e : storeAndStep delta s = .next t) :
    t.control = s.control := by
  obtain ⟨⟨⟩, s1, h, e⟩ := finish_eq_next.1 e
  cases e
  simp [writeByte_control h]

theorem storeSP_control {addr : Word} {s t : State} (e : storeSP addr s = .next t) : t.control = s.control := by
  obtain ⟨⟨⟩, s1, h, e⟩ := finish_eq_next.1 e
  cases e
  exact writeWord_control h

theorem stepPair_control {p : RP} {delta : Word} {s t : State} (e : stepPair p delta s = .next t) :
    t.control = s.control := by
  cases e
  exact setRP_control _ _ _

theorem pushPair_control {p : RP2} {s t : State} (e : pushPair p s = .next t) : t.control = s.control := by
  obtain ⟨⟨⟩, s1, h, e⟩ := finish_eq_next.1 e
  cases e
  exact push16_control h

theorem popPair_control {p : RP2} (hp : p ≠ .af) {s t : State} (e : popPair p s = .next t) :
    t.control = s.control := by
  obtain ⟨v, s1, h, e⟩ := finish_eq_next.1 e
  cases e
  rw [setRP2_control hp, pop16_control h]

theorem changeReg_control {f : Byte → Byte} {r : R8} {s t : State} (e : changeReg f r s = .next t) :
    t.control = s.control := by
  cases e
  exact setR8_control _ _ _

theorem changeHL_control {f : Byte → Byte} {s t : State} (e : changeHL f s = .next t) : t.control = s.control := by
  obtain ⟨v, s1, h1, e⟩ := finish_eq_next.1 e
  obtain ⟨⟨⟩, s2, h2, e⟩ := finish_eq_next.1 e
  cases e
  rw [writeByte_control h2, readByte_control h1]

theorem jumpIf_control {cc : Cond} {addr : Word} {s t : State} (e : jumpIf cc addr s = .next t) :
    t.control = s.control := by
  unfold jumpIf at e
  split at e <;> cases e <;> rfl

theorem jumpRelativeIf_control {cc : Cond} {n : Byte} {s t : State} (e : jumpRelativeIf cc n s = .next t) :
    t.control = s.control := by
  unfold jumpRelativeIf at e
  split at e <;> cases e <;> rfl

theorem callTo_control {addr : Word} {s t : State} (e : callTo addr s = .next t) : t.control = s.control := by
  obtain ⟨⟨⟩, s1, h, e⟩ := finish_eq_next.1 e
  cases e
  simp [push16_control h]

theorem callIf_control {cc : Cond} {addr : Word} {s t : State} (e : callIf cc addr s = .next t) :
    t.control = s.control := by
  unfold callIf at e
  split at e
  · exact callTo_control e
  · cases e; rfl

theorem returnTo_control {s t : State} (e : returnTo s = .next t) : t.control = s.control := by
  obtain ⟨v, s1, h, e⟩ := finish_eq_next.1 e
  cases e
  simp [pop16_control h]

theorem returnIf_control {cc : Cond} {s t : State} (e : returnIf cc s = .next t) : t.control = s.control := by
  unfold returnIf at e
  split at e
  · exact returnTo_control e
  · cases e; rfl

theorem stopUnimplemented_control {op : Opcode} {s t : State} (e : stopUnimplemented op s = .next t) :
    t.control = s.control := by
  unfold stopUnimplemented at e
  split at e <;> cases e
  exact raiseStop_control _ _

/-- RETI sets IME and writes no flag, and leaves the halted state (46_control.md R1009). -/
theorem returnEnabling_keeps {s t : State} (e : returnEnabling s = .next t) :
    t.halted = s.halted ∧ t.flags = s.flags := by
  obtain ⟨⟨⟩, s1, h, e⟩ := finish_eq_next.1 e
  cases e
  obtain ⟨v, s2, hp, rfl⟩ := returnFromInterrupt_ok h
  obtain ⟨hm, hf⟩ := control_eq_iff.1 (pop16_control hp)
  exact ⟨(modes_eq_iff.1 hm).2, hf⟩

/-! ### The shared operations that write flags leave the modes -/

theorem withHL_modes {op : AluOp} {s t : State} (e : withHL (aluEffect op) s = .next t) : t.modes = s.modes := by
  obtain ⟨v, s1, h, e⟩ := finish_eq_next.1 e
  cases e
  simp [readByte_modes h]

theorem modifyReg_modes {f : Byte → Bool → Flagged} {r : R8} {s t : State} (e : modifyReg f r s = .next t) :
    t.modes = s.modes := by
  cases e
  simp

theorem modifyHL_modes {f : Byte → Bool → Flagged} {s t : State} (e : modifyHL f s = .next t) : t.modes = s.modes := by
  obtain ⟨v, s1, h1, e⟩ := finish_eq_next.1 e
  obtain ⟨⟨⟩, s2, h2, e⟩ := finish_eq_next.1 e
  cases e
  simp [writeByte_modes h2, readByte_modes h1]

theorem shiftReg_modes {op : RotOp} {r : R8} {s t : State} (e : shiftReg op r s = .next t) : t.modes = s.modes := by
  cases e
  simp

theorem shiftHL_modes {op : RotOp} {s t : State} (e : shiftHL op s = .next t) : t.modes = s.modes := by
  obtain ⟨v, s1, h1, e⟩ := finish_eq_next.1 e
  obtain ⟨⟨⟩, s2, h2, e⟩ := finish_eq_next.1 e
  cases e
  simp [writeByte_modes h2, readByte_modes h1]

theorem testBitReg_modes {n : Nat} {r : R8} {s t : State} (e : testBitReg n r s = .next t) : t.modes = s.modes := by
  cases e
  exact bitFlags_modes _ _ _

theorem testBitHL_modes {n : Nat} {s t : State} (e : testBitHL n s = .next t) : t.modes = s.modes := by
  obtain ⟨v, s1, h, e⟩ := finish_eq_next.1 e
  cases e
  simp [readByte_modes h]

theorem popPair_modes {p : RP2} {s t : State} (e : popPair p s = .next t) : t.modes = s.modes := by
  obtain ⟨v, s1, h, e⟩ := finish_eq_next.1 e
  cases e
  rw [setRP2_modes, (control_eq_iff.1 (pop16_control h)).1]

theorem cbEffect_modes {sub : Byte} {s t : State} (e : cbEffect sub s = .next t) : t.modes = s.modes := by
  unfold cbEffect at e
  simp only at e
  split at e
  · exact shiftReg_modes e
  · exact shiftHL_modes e
  · exact testBitReg_modes e
  · exact testBitHL_modes e
  · exact (control_eq_iff.1 (changeReg_control e)).1
  · exact (control_eq_iff.1 (changeHL_control e)).1
  · exact (control_eq_iff.1 (changeReg_control e)).1
  · exact (control_eq_iff.1 (changeHL_control e)).1

/-- The instructions that write a flag leave IME and the halted state. -/
theorem exec_modes_of_writesFlags {i : Instr} (hi : WritesFlags i) {s t : State} (e : exec i s = .next t) :
    t.modes = s.modes := by
  cases hi with
  | aluR op r => rw [exec_aluR] at e; cases e; exact aluEffect_modes _ _ _
  | aluHL op => rw [exec_aluHL] at e; exact withHL_modes e
  | aluN op n => rw [exec_aluN] at e; cases e; exact aluEffect_modes _ _ _
  | incR r => rw [exec_incR] at e; exact modifyReg_modes e
  | decR r => rw [exec_decR] at e; exact modifyReg_modes e
  | incHL => exact modifyHL_modes e
  | decHL => exact modifyHL_modes e
  | daa => cases e; rfl
  | cpl => cases e; rfl
  | scf => cases e; rfl
  | ccf => cases e; rfl
  | addHL p => rw [exec_addHL] at e; cases e; rfl
  | addSP n => cases e; rfl
  | ldHLSP n => cases e; rfl
  | rlca => cases e; rfl
  | rrca => cases e; rfl
  | rla => cases e; rfl
  | rra => cases e; rfl
  | rotR op r => rw [exec_rotR] at e; exact shiftReg_modes e
  | rotHL op => rw [exec_rotHL] at e; exact shiftHL_modes e
  | bitR b r => rw [exec_bitR] at e; exact testBitReg_modes e
  | bitHL b => rw [exec_bitHL] at e; exact testBitHL_modes e
  | popAF => rw [exec_pop] at e; exact popPair_modes e
  | prefixCb sub => exact cbEffect_modes e

/-! ### The fields of an opcode -/

/-- The byte whose fields select an instruction: the sub-opcode after 0xCB, otherwise the opcode (30_encoding.md R302). -/
def fieldByte (i : Instr) : Byte :=
  match encode i with
  | [] => 0
  | op :: rest => if op = 0xCB then rest.headD 0 else op

/-- The field y (30_encoding.md R302). -/
def fieldY (i : Instr) : Nat := (fieldByte i).toNat / 8 % 8

/-- The register that the field r8 in bits 2..0 names (30_encoding.md R303). -/
def srcField (i : Instr) : R8 := (r8OfField ((fieldByte i).toNat % 8)).getD .a

/-- The register that the field r8 in bits 5..3 names (30_encoding.md R303). -/
def dstField (i : Instr) : R8 := (r8OfField (fieldY i)).getD .a

/-- The pair that the field p names (30_encoding.md R304). -/
def pairField (i : Instr) : RP := [RP.bc, .de, .hl, .sp].getD ((fieldByte i).toNat / 16 % 4) .bc

/-- The ALU operation that the field y names (30_encoding.md R306). -/
def aluField (i : Instr) : AluOp := [AluOp.add, .adc, .sub, .sbc, .and, .xor, .or, .cp].getD (fieldY i) .add

/-- The bit that the field y names (30_encoding.md R307). -/
def bitField (i : Instr) : BitNo := [BitNo.b0, .b1, .b2, .b3, .b4, .b5, .b6, .b7].getD (fieldY i) .b0

/-! An instruction that is the form its fields name is one of the flag writers of that form. -/

section
variable {i : Instr}

theorem WritesFlags.aluR_of_fields (h : .aluR (aluField i) (srcField i) = i) : WritesFlags i := h ▸ .aluR _ _
theorem WritesFlags.aluHL_of_field (h : .aluHL (aluField i) = i) : WritesFlags i := h ▸ .aluHL _
theorem WritesFlags.incR_of_field (h : .incR (dstField i) = i) : WritesFlags i := h ▸ .incR _
theorem WritesFlags.decR_of_field (h : .decR (dstField i) = i) : WritesFlags i := h ▸ .decR _
theorem WritesFlags.addHL_of_field (h : .addHL (pairField i) = i) : WritesFlags i := h ▸ .addHL _
theorem WritesFlags.rotR_of_fields (h : .rotR (rotOfField (fieldY i)) (srcField i) = i) : WritesFlags i := h ▸ .rotR _ _
theorem WritesFlags.rotHL_of_field (h : .rotHL (rotOfField (fieldY i)) = i) : WritesFlags i := h ▸ .rotHL _
theorem WritesFlags.bitR_of_fields (h : .bitR (bitField i) (srcField i) = i) : WritesFlags i := h ▸ .bitR _ _
theorem WritesFlags.bitHL_of_field (h : .bitHL (bitField i) = i) : WritesFlags i := h ▸ .bitHL _

end

/-! ### Over all instructions -/

/-- The instructions that write IME or the halted state (10_state.md R108, R112). -/
inductive WritesModes : Instr → Prop where
  | ei : WritesModes .ei
  | di : WritesModes .di
  | reti : WritesModes .reti
  | halt : WritesModes .halt

/-- Every other instruction leaves flags and modes alone: by the shared operation it runs. -/
theorem exec_control {i : Instr} (hf : ¬ WritesFlags i) (hm : ¬ WritesModes i) {s t : State} (e : exec i s = .next t) :
    t.control = s.control := by
  cases i
  case ei => exact absurd .ei hm
  case di => exact absurd .di hm
  case reti => exact absurd .reti hm
  case halt => exact absurd .halt hm
  case addAB | addAC | addAD | addAE | addAH | addAL | addAA | adcAB | adcAC | adcAD | adcAE | adcAH | adcAL |
      adcAA | subB | subC | subD | subE | subH | subL | subA | sbcAB | sbcAC | sbcAD | sbcAE | sbcAH | sbcAL |
      sbcAA | andB | andC | andD | andE | andH | andL | andA | xorB | xorC | xorD | xorE | xorH | xorL | xorA | orB |
      orC | orD | orE | orH | orL | orA | cpB | cpC | cpD | cpE | cpH | cpL | cpA =>
    exact absurd (.aluR_of_fields rfl) hf
  case addAIndHL | adcAIndHL | subIndHL | sbcAIndHL | andIndHL | xorIndHL | orIndHL | cpIndHL =>
    exact absurd (.aluHL_of_field rfl) hf
  case addAN8 n => exact absurd (.aluN .add n) hf
  case adcAN8 n => exact absurd (.aluN .adc n) hf
  case subN8 n => exact absurd (.aluN .sub n) hf
  case sbcAN8 n => exact absurd (.aluN .sbc n) hf
  case andN8 n => exact absurd (.aluN .and n) hf
  case xorN8 n => exact absurd (.aluN .xor n) hf
  case orN8 n => exact absurd (.aluN .or n) hf
  case cpN8 n => exact absurd (.aluN .cp n) hf
  case incB | incC | incD | incE | incH | incL | incA => exact absurd (.incR_of_field rfl) hf
  case decB | decC | decD | decE | decH | decL | decA => exact absurd (.decR_of_field rfl) hf
  case addHLBC | addHLDE | addHLHL | addHLSP => exact absurd (.addHL_of_field rfl) hf
  case rlcB | rlcC | rlcD | rlcE | rlcH | rlcL | rlcA | rrcB | rrcC | rrcD | rrcE | rrcH | rrcL | rrcA | rlB | rlC |
      rlD | rlE | rlH | rlL | rlA | rrB | rrC | rrD | rrE | rrH | rrL | rrA | slaB | slaC | slaD | slaE | slaH |
      slaL | slaA | sraB | sraC | sraD | sraE | sraH | sraL | sraA | swapB | swapC | swapD | swapE | swapH | swapL |
      swapA | srlB | srlC | srlD | srlE | srlH | srlL | srlA => exact absurd (.rotR_of_fields rfl) hf
  case rlcIndHL | rrcIndHL | rlIndHL | rrIndHL | slaIndHL | sraIndHL | swapIndHL | srlIndHL =>
    exact absurd (.rotHL_of_field rfl) hf
  case bit0B | bit0C | bit0D | bit0E | bit0H | bit0L | bit0A | bit1B | bit1C | bit1D | bit1E | bit1H | bit1L |
      bit1A | bit2B | bit2C | bit2D | bit2E | bit2H | bit2L | bit2A | bit3B | bit3C | bit3D | bit3E | bit3H | bit3L |
      bit3A | bit4B | bit4C | bit4D | bit4E | bit4H | bit4L | bit4A | bit5B | bit5C | bit5D | bit5E | bit5H | bit5L |
      bit5A | bit6B | bit6C | bit6D | bit6E | bit6H | bit6L | bit6A | bit7B | bit7C | bit7D | bit7E | bit7H | bit7L |
      bit7A => exact absurd (.bitR_of_fields rfl) hf
  case bit0IndHL | bit1IndHL | bit2IndHL | bit3IndHL | bit4IndHL | bit5IndHL | bit6IndHL | bit7IndHL =>
    exact absurd (.bitHL_of_field rfl) hf
  case incIndHL => exact absurd .incHL hf
  case decIndHL => exact absurd .decHL hf
  case daa => exact absurd .daa hf
  case cpl => exact absurd .cpl hf
  case scf => exact absurd .scf hf
  case ccf => exact absurd .ccf hf
  case addSPE8 n => exact absurd (.addSP n) hf
  case ldHLSPE8 n => exact absurd (.ldHLSP n) hf
  case rlca => exact absurd .rlca hf
  case rrca => exact absurd .rrca hf
  case rla => exact absurd .rla hf
  case rra => exact absurd .rra hf
  case popAF => exact absurd .popAF hf
  case prefixCb sub => exact absurd (.prefixCb sub) hf
  case ldBIndHL | ldCIndHL | ldDIndHL | ldEIndHL | ldHIndHL | ldLIndHL | ldAIndHL => exact loadByte_control e
  case ldAIndBC | ldAIndDE | ldAIndN16 | ldhAIndN8 | ldAIndC => exact loadByte_control e
  case ldIndHLB | ldIndHLC | ldIndHLD | ldIndHLE | ldIndHLH | ldIndHLL | ldIndHLA => exact storeByte_control e
  case ldIndHLN8 | ldIndBCA | ldIndDEA | ldIndN16A | ldhIndN8A | ldIndCA => exact storeByte_control e
  case ldAIndHLInc | ldAIndHLDec => exact loadAndStep_control e
  case ldIndHLIncA | ldIndHLDecA => exact storeAndStep_control e
  case ldIndN16SP => exact storeSP_control e
  case pushBC => exact pushPair_control (p := .bc) e
  case pushDE => exact pushPair_control (p := .de) e
  case pushHL => exact pushPair_control (p := .hl) e
  case pushAF => exact pushPair_control (p := .af) e
  case popBC => exact popPair_control (p := .bc) nofun e
  case popDE => exact popPair_control (p := .de) nofun e
  case popHL => exact popPair_control (p := .hl) nofun e
  case res0IndHL | res1IndHL | res2IndHL | res3IndHL | res4IndHL | res5IndHL | res6IndHL | res7IndHL =>
    exact changeHL_control e
  case set0IndHL | set1IndHL | set2IndHL | set3IndHL | set4IndHL | set5IndHL | set6IndHL | set7IndHL =>
    exact changeHL_control e
  case jpNZN16 | jpZN16 | jpNCN16 | jpCN16 => exact jumpIf_control e
  case jrNZE8 | jrZE8 | jrNCE8 | jrCE8 => exact jumpRelativeIf_control e
  case callNZN16 | callZN16 | callNCN16 | callCN16 => exact callIf_control e
  case callN16 | rst00 | rst08 | rst10 | rst18 | rst20 | rst28 | rst30 | rst38 => exact callTo_control e
  case retNZ | retZ | retNC | retC => exact returnIf_control e
  case ret => exact returnTo_control e
  case incBC => exact stepPair_control (p := .bc) (delta := 1) e
  case incDE => exact stepPair_control (p := .de) (delta := 1) e
  case incHL => exact stepPair_control (p := .hl) (delta := 1) e
  case incSP => exact stepPair_control (p := .sp) (delta := 1) e
  case decBC => exact stepPair_control (p := .bc) (delta := -1) e
  case decDE => exact stepPair_control (p := .de) (delta := -1) e
  case decHL => exact stepPair_control (p := .hl) (delta := -1) e
  case decSP => exact stepPair_control (p := .sp) (delta := -1) e
  case stop | unassignedD3 | unassignedDB | unassignedDD | unassignedE3 | unassignedE4 | unassignedEB | unassignedEC |
      unassignedED | unassignedF4 | unassignedFC | unassignedFD => exact stopUnimplemented_control e
  all_goals
    cases e
    rfl

/-- Settles O19: a mode changes only in an instruction that writes modes, and each of those four writes its own. -/
theorem onlyTheseWriteImeAndHalted : Obligations.OnlyTheseWriteImeAndHalted := by
  unfold Obligations.OnlyTheseWriteImeAndHalted
  intro i s t e
  by_cases hm : WritesModes i
  · cases hm with
    | ei => cases e; simp
    | di => cases e; simp
    | reti => exact ⟨fun _ => .inr (.inr rfl), fun h => absurd (returnEnabling_keeps e).1 h⟩
    | halt => cases e; simp
  · have h : t.modes = s.modes := by
      by_cases hf : WritesFlags i
      · exact exec_modes_of_writesFlags hf e
      · exact (control_eq_iff.1 (exec_control hf hm e)).1
    obtain ⟨hime, hhalted⟩ := modes_eq_iff.1 h
    exact ⟨absurd hime, absurd hhalted⟩

/-- Settles O20: an instruction not listed writes a mode alone, or neither flags nor modes. -/
theorem onlyListedInstructionsWriteFlags : Obligations.OnlyListedInstructionsWriteFlags := by
  unfold Obligations.OnlyListedInstructionsWriteFlags
  intro i s t hf e
  rw [← flags_eq_iff]
  by_cases hm : WritesModes i
  · cases hm with
    | ei => cases e; rfl
    | di => cases e; rfl
    | reti => exact (returnEnabling_keeps e).2
    | halt => cases e; rfl
  · exact (control_eq_iff.1 (exec_control hf hm e)).2

end Sys2Proof.Machine
end

section
/-! ## The invariant of a good state: at reset, and under every step -/

namespace Sys2Proof.Machine

open Sys2Proof

theorem Memory.wf_nil : Memory.wf [] := ⟨.nil, nofun⟩

/-! ### The agents' ticks -/

theorem requestInterrupt_inv {s : State} (hs : s.Inv) (k : Nat) : (requestInterrupt k s).Inv := { hs with }

theorem requestIf_inv {s : State} (hs : s.Inv) (b : Bool) (k : Nat) : (requestIf b k s).Inv := by
  cases b
  · exact hs
  · exact requestInterrupt_inv hs k

theorem keypadTick_inv {s : State} (hs : s.Inv) (a : AgentTicks) : (keypadTick a s).Inv :=
  requestIf_inv (requestIf_inv hs _ _) _ _

theorem timerTick_inv {s : State} (hs : s.Inv) (a : AgentTicks) : (timerTick a s).Inv :=
  requestIf_inv (requestIf_inv hs _ _) _ _

theorem dmaStep_inv {op : DmaOp} {s t : State} (hs : s.Inv) (e : dmaStep op s = .ok () t) : t.Inv := by
  cases op with
  | read src =>
    obtain ⟨v, s1, h, e⟩ := andThen_eq_ok.1 e
    cases e
    exact inv_of_sameButDraws hs (readByte_ok h)
  | write i v => exact writeByte_inv hs e
  | copy src i =>
    obtain ⟨v, s1, h, e⟩ := andThen_eq_ok.1 e
    exact writeByte_inv (inv_of_sameButDraws hs (readByte_ok h)) e

theorem dmaRun_inv {ops : List DmaOp} {s t : State} (hs : s.Inv) (e : dmaRun ops s = .ok () t) : t.Inv := by
  induction ops generalizing s with
  | nil => cases e; exact hs
  | cons op rest ih =>
    obtain ⟨⟨⟩, s1, h, e⟩ := andThen_eq_ok.1 e
    exact ih (dmaStep_inv hs h) e

theorem dmaTick_inv {a : AgentTicks} {s t : State} (hs : s.Inv) (e : dmaTick a s = .ok () t) : t.Inv := by
  obtain ⟨⟨⟩, s1, h, e⟩ := andThen_eq_ok.1 e
  cases e
  exact requestIf_inv (dmaRun_inv hs h) _ _

/-- The agents reach the state through accesses and requests alone, so their ticks keep the invariant. -/
theorem agentsTick_inv {s t : State} (hs : s.Inv) (e : agentsTick s = .ok () t) : t.Inv := by
  obtain ⟨⟨⟩, s1, h, e⟩ := andThen_eq_ok.1 e
  cases e
  have hd : s1.Inv := dmaTick_inv (keypadTick_inv hs _) h
  exact { timerTick_inv hd (nextAgentTicks s) with }

/-! ### The PPU's tick -/

/-- The part of the invariant that a transition of the PPU can touch, without the counter, which is above its budget while
the loop of the tick runs (48_ppu.md R1210). -/
structure State.Picture (s : State) : Prop where
  line : s.ppu.line ≤ 153
  vblank : s.ppu.mode = .vBlank ↔ 144 ≤ s.ppu.line
  frame_wf : s.frame.wf
  frame_keys : ∀ cell ∈ s.frame, cell.1 < 4 * 160 * 144

theorem State.Inv.picture {s : State} (hs : s.Inv) : s.Picture := { hs with }

/-- The pixel bytes of a line on the screen lie within the buffer (48_ppu.md R1228). -/
theorem renderLine_picture {s : State} (hs : s.Picture) (hl : s.ppu.line < 144) :
    (renderLine s s.ppu.line).Picture :=
  { hs with
    frame_wf := Memory.wf_writeRow hs.frame_wf _ _
    frame_keys := by
      intro cell hc
      rcases Memory.mem_writeRow hc with h | ⟨-, h⟩
      · exact hs.frame_keys cell h
      · rw [rowBytes_length, lineShades_length] at h
        omega }

/-- A picture with another counter, mode and line is one if the mode and the line agree. -/
theorem State.Picture.setPpu {s : State} (hs : s.Picture) {p : Ppu} (hl : p.line ≤ 153)
    (hv : p.mode = .vBlank ↔ 144 ≤ p.line) : (s.setPpu p).Picture :=
  { hs with line := hl, vblank := hv }

theorem payBudget_picture {s : State} (hs : s.Picture) : (payBudget s).Picture := hs.setPpu hs.line hs.vblank

/-- Outside VBlank the line is one of the screen's (10_state.md R118). -/
theorem State.Picture.line_lt {s : State} (hs : s.Picture) (hm : s.ppu.mode ≠ .vBlank) : s.ppu.line < 144 :=
  Nat.lt_of_not_le fun h => hm (hs.vblank.2 h)

theorem endOAMSearch_picture {s : State} (hs : s.Picture) (hm : s.ppu.mode = .oamSearch) : (endOAMSearch s).Picture := by
  have hl := hs.line_lt (by simp [hm])
  exact hs.setPpu hs.line (iff_of_false nofun (Nat.not_le_of_lt hl))

theorem endDrawing_picture {s : State} (hs : s.Picture) (hm : s.ppu.mode = .drawing) : (endDrawing s).Picture := by
  have hl := hs.line_lt (by simp [hm])
  exact (renderLine_picture hs hl).setPpu hs.line (iff_of_false nofun (Nat.not_le_of_lt hl))

theorem endHBlank_picture {s : State} (hs : s.Picture) (hm : s.ppu.mode = .hBlank) : (endHBlank s).Picture := by
  have hl := hs.line_lt (by simp [hm])
  have hl' : s.ppu.line + 1 ≤ 153 := by omega
  unfold endHBlank
  split
  · next h =>
    have hp : (s.setPpu { s.ppu with line := s.ppu.line + 1, mode := .vBlank }).Picture :=
      hs.setPpu hl' (iff_of_true rfl (Nat.le_of_eq h.symm))
    exact { hp with }
  · next h => exact hs.setPpu hl' (iff_of_false nofun (show ¬ 144 ≤ s.ppu.line + 1 by omega))

theorem endVBlankLine_picture {s : State} (hs : s.Picture) (hm : s.ppu.mode = .vBlank) : (endVBlankLine s).Picture := by
  have hl : 144 ≤ s.ppu.line := hs.vblank.1 hm
  have hl' := hs.line
  unfold endVBlankLine
  split
  · exact hs.setPpu (Nat.zero_le _) (iff_of_false nofun nofun)
  · exact hs.setPpu (show s.ppu.line + 1 ≤ 153 by omega) (iff_of_true hm (show 144 ≤ s.ppu.line + 1 by omega))

theorem ppuTransition_picture {s : State} (hs : s.Picture) : (ppuTransition s).Picture := by
  have hp := payBudget_picture hs
  unfold ppuTransition
  split
  · next hm => exact endOAMSearch_picture hp hm
  · next hm => exact endDrawing_picture hp hm
  · next hm => exact endHBlank_picture hp hm
  · next hm => exact endVBlankLine_picture hp hm

theorem ppuLoop_picture (fuel : Nat) {s : State} (hs : s.Picture) : (ppuLoop fuel s).Picture := by
  induction fuel generalizing s with
  | zero => exact hs
  | succ n ih =>
    unfold ppuLoop
    split
    · exact hs
    · exact ih (ppuTransition_picture hs)

theorem ppuTick_picture (k : Nat) {s : State} (hs : s.Picture) : (ppuTick k s).Picture :=
  ppuLoop_picture _ { hs with }

/-- With positive budgets a tick ends with the counter below the current budget (48_ppu.md R1202, R1210). -/
theorem ppuTick_counter (k : Nat) {s : State} (hb : ∀ m, 0 < budget s.params m) :
    (ppuTick k s).ppu.counter < budget s.params (ppuTick k s).ppu.mode :=
  ppuLoop_counter _ _ hb (Nat.le_refl _)

/-- A tick of the PPU keeps the invariant: it changes the picture, pays the counter down, and leaves the rest alone. -/
theorem ppuTick_inv (k : Nat) {s : State} (hs : s.Inv) : (ppuTick k s).Inv := by
  have hp := ppuTick_picture k hs.picture
  have hc := ppuTick_counter k hs.budgets
  have same := ppuTick_same k s
  unfold SameButPpu at same
  generalize ppuTick k s = t at *
  rw [same]
  exact { hs with
    line := hp.line, vblank := hp.vblank, frame_wf := hp.frame_wf, frame_keys := hp.frame_keys, counter := hc }

/-! ### The step -/

theorem ticks_inv {k : StepKind} {s t : State} (hs : s.Inv) (e : ticks k s = .next t) : t.Inv := by
  obtain ⟨⟨⟩, s1, h, e⟩ := finish_eq_next.1 e
  cases e
  exact ppuTick_inv _ (agentsTick_inv hs h)

/-- Settles O16: the CPU step keeps the invariant (`cpuStep_runs`), and so do the agents' and the PPU's ticks after it. -/
theorem stepKeepsTheInvariant : Obligations.StepKeepsTheInvariant := by
  unfold Obligations.StepKeepsTheInvariant
  intro s t hs e
  obtain ⟨-, s1, k, hcpu, h⟩ := step_next e
  have h1 : s1.Inv := (cpuStep_runs hcpu).inv hs
  rcases h with ⟨-, hticks⟩ | ⟨-, rfl⟩
  · exact ticks_inv h1 hticks
  · exact h1

/-- Settles O15: the memories list nothing, the default budgets are positive, and the slot table has no slot twice. -/
theorem resetMeetsTheInvariant : Obligations.ResetMeetsTheInvariant where
  rom_wf := Memory.wf_nil
  rom_keys := nofun
  rom_len := by decide
  ram_wf := Memory.wf_nil
  ram_keys := nofun
  frame_wf := Memory.wf_nil
  frame_keys := nofun
  bank := by decide
  line := by decide
  vblank := by decide
  budgets m := by cases m <;> decide
  counter := by decide
  owners := by decide

end Sys2Proof.Machine
end

section
/-! ## Safety: with an image that covers every bank no step from a good state faults -/

namespace Sys2Proof.Machine

open Sys2Proof

/-! ### States in which every access completes -/

/-- A good state with the construction's slot table and an image that covers banks 0 to 31. -/
structure State.Covered (s : State) : Prop where
  inv : s.Inv
  slots : s.slots = resetSlots
  image : 0x80000 ≤ s.romLen

/-- Register changes and accesses keep a state covered. -/
theorem Runs.covered {s t : State} (h : Runs s t) (hs : s.Covered) : t.Covered where
  inv := h.inv hs.inv
  slots := by rw [h.same]; exact hs.slots
  image := by rw [h.same]; exact hs.image

section
variable {s : State} (hs : s.Covered)
include hs

/-- The IE slot is the CPU's in the default table (10_state.md R116), so no access of it faults (20_memory.md R207). -/
theorem State.Covered.registered_ie : s.registered .ie = true := by
  unfold State.registered
  rw [hs.slots]
  rfl

/-- The bank register is at most 31, so an offset lies below 32 banks (10_state.md R114, 20_memory.md R220). -/
theorem State.Covered.romOffset_lt {addr : Word} (h : addr.toNat < 0x8000) : romOffset s addr < s.romLen := by
  have hbank := hs.inv.bank.2
  have himage := hs.image
  unfold romOffset
  split <;> omega

theorem State.Covered.readable (addr : Word) : s.readable addr = true := by
  unfold State.readable
  split
  · next hr => exact decide_eq_true (hs.romOffset_lt (Nat.lt_trans (region_bounds hr).2 (by decide)))
  · next hr => exact decide_eq_true (hs.romOffset_lt (region_bounds hr).2)
  · exact hs.registered_ie
  · rfl

theorem State.Covered.writable (addr : Word) : s.writable addr = true := by
  unfold State.writable
  split
  · exact hs.registered_ie
  · rfl

end

/-! ### Accesses that complete -/

/-- The access completes, and every access completes in the state it leaves. -/
def Access.Completes {α : Type} (x : Access α) : Prop := ∃ v t, x = .ok v t ∧ t.Covered

theorem Access.Completes.ok {α : Type} {v : α} {t : State} (h : t.Covered) : (Access.ok v t).Completes := ⟨v, t, rfl, h⟩

/-- A chain of accesses that complete completes. -/
theorem Access.Completes.andThen {α β : Type} {x : Access α} {f : α → State → Access β} (hx : x.Completes)
    (hf : ∀ v t, t.Covered → (f v t).Completes) : (x.andThen f).Completes := by
  obtain ⟨v, t, rfl, ht⟩ := hx
  exact hf v t ht

theorem next_ne_fault {σ : Type} {t : σ} {f : Fault} : (.next t : Host.Outcome σ Fault Refusal) ≠ .fault f := nofun

/-- A meaning that begins with an access that completes faults only after it. -/
theorem Access.Completes.finish_ne_fault {α σ : Type} {x : Access α} {g : α → State → Host.Outcome σ Fault Refusal}
    {f : Fault} (hx : x.Completes) (hg : ∀ v t, t.Covered → g v t ≠ .fault f) : x.finish g ≠ .fault f := by
  obtain ⟨v, t, rfl, ht⟩ := hx
  exact hg v t ht

/-- A meaning that is one access that completes and its next state does not fault. -/
theorem Access.Completes.finish_next_ne_fault {α σ : Type} {x : Access α} {g : α → State → σ} {f : Fault}
    (hx : x.Completes) : (x.finish fun v t => (.next (g v t) : Host.Outcome σ Fault Refusal)) ≠ .fault f :=
  hx.finish_ne_fault fun _ _ _ => next_ne_fault

section
variable {s : State} (hs : s.Covered)
include hs

theorem readByte_covered (addr : Word) : (readByte s addr).Completes := by
  obtain ⟨v, t, e⟩ := (readByte_completes s addr).2 (hs.readable addr)
  exact ⟨v, t, e, (Runs.read e).covered hs⟩

theorem writeByte_covered (addr : Word) (v : Byte) : (writeByte s addr v).Completes := by
  obtain ⟨t, e⟩ := (writeByte_completes s addr v).2 (hs.writable addr)
  exact ⟨(), t, e, (Runs.write e).covered hs⟩

theorem writeWord_covered (addr v : Word) : (writeWord s addr v).Completes :=
  (writeByte_covered hs _ _).andThen fun _ _ h => writeByte_covered h _ _

theorem push16_covered (v : Word) : (push16 s v).Completes :=
  writeWord_covered ((Runs.registers (t := s.setSP (s.sp - 2)) rfl).covered hs) _ _

theorem pop16_covered : (pop16 s).Completes := by
  obtain ⟨v, t, e⟩ := (pop16_completes s).2 ⟨hs.readable _, hs.readable _⟩
  exact ⟨v, t, e, (Runs.pop e).covered hs⟩

theorem returnFromInterrupt_covered : (returnFromInterrupt s).Completes := by
  refine (pop16_covered hs).andThen fun _ _ h => .ok ?_
  exact (Runs.registers rfl).covered h

/-- Taking an interrupt clears a bit of IF and IME, which no access asks for, and pushes pc. -/
theorem takeInterrupt_covered : (takeInterrupt s).Completes := by
  have hclear : State.Covered { s with ifr := s.ifr &&& ~~~bitMask (lowestPending (pendingEnabled s)), ime := false } :=
    ⟨{ hs.inv with }, hs.slots, hs.image⟩
  refine (push16_covered hclear _).andThen fun _ _ h => .ok ?_
  exact (Runs.registers rfl).covered h

theorem fetch8_covered : (fetch8 s).Completes :=
  (readByte_covered hs _).andThen fun _ _ h => .ok ((Runs.registers rfl).covered h)

theorem fetch16_covered : (fetch16 s).Completes :=
  (fetch8_covered hs).andThen fun _ _ h => (fetch8_covered h).andThen fun _ _ h => .ok h

theorem fetchOpcode_covered : (fetchOpcode s).Completes := by
  refine (fetch8_covered hs).andThen fun op s1 h => ?_
  split
  · exact (fetch8_covered h).andThen fun _ _ h => .ok h
  · exact .ok h

theorem fetchOperand_covered (op : Opcode) : (fetchOperand op s).Completes := by
  unfold fetchOperand
  split
  · exact .ok hs
  · split
    · exact .ok hs
    · exact (fetch8_covered hs).andThen fun _ _ h => .ok h
    · exact (fetch16_covered hs).andThen fun _ _ h => .ok h

end

/-! ### The meanings -/

section
variable {s : State} (hs : s.Covered) {f : Fault}
include hs

theorem loadByte_ne_fault {r : R8} {addr : Word} : loadByte r addr s ≠ .fault f :=
  (readByte_covered hs _).finish_next_ne_fault

theorem storeByte_ne_fault {addr : Word} {v : Byte} : storeByte addr v s ≠ .fault f :=
  (writeByte_covered hs _ _).finish_next_ne_fault

theorem loadAndStep_ne_fault {delta : Word} : loadAndStep delta s ≠ .fault f :=
  (readByte_covered hs _).finish_next_ne_fault

theorem storeAndStep_ne_fault {delta : Word} : storeAndStep delta s ≠ .fault f :=
  (writeByte_covered hs _ _).finish_next_ne_fault

theorem storeSP_ne_fault {addr : Word} : storeSP addr s ≠ .fault f := (writeWord_covered hs _ _).finish_next_ne_fault

theorem pushPair_ne_fault {p : RP2} : pushPair p s ≠ .fault f := (push16_covered hs _).finish_next_ne_fault

theorem popPair_ne_fault {p : RP2} : popPair p s ≠ .fault f := (pop16_covered hs).finish_next_ne_fault

theorem withHL_ne_fault {g : Byte → State → State} : withHL g s ≠ .fault f :=
  (readByte_covered hs _).finish_next_ne_fault

theorem testBitHL_ne_fault {n : Nat} : testBitHL n s ≠ .fault f := (readByte_covered hs _).finish_next_ne_fault

theorem modifyHL_ne_fault {g : Byte → Bool → Flagged} : modifyHL g s ≠ .fault f :=
  (readByte_covered hs _).finish_ne_fault fun _ _ h => (writeByte_covered h _ _).finish_next_ne_fault

theorem shiftHL_ne_fault {op : RotOp} : shiftHL op s ≠ .fault f :=
  (readByte_covered hs _).finish_ne_fault fun _ _ h => (writeByte_covered h _ _).finish_next_ne_fault

theorem changeHL_ne_fault {g : Byte → Byte} : changeHL g s ≠ .fault f :=
  (readByte_covered hs _).finish_ne_fault fun _ _ h => (writeByte_covered h _ _).finish_next_ne_fault

theorem callTo_ne_fault {addr : Word} : callTo addr s ≠ .fault f := (push16_covered hs _).finish_next_ne_fault

theorem callIf_ne_fault {cc : Cond} {addr : Word} : callIf cc addr s ≠ .fault f := by
  unfold callIf
  split
  · exact callTo_ne_fault hs
  · exact next_ne_fault

theorem returnTo_ne_fault : returnTo s ≠ .fault f := (pop16_covered hs).finish_next_ne_fault

theorem returnIf_ne_fault {cc : Cond} : returnIf cc s ≠ .fault f := by
  unfold returnIf
  split
  · exact returnTo_ne_fault hs
  · exact next_ne_fault

theorem returnEnabling_ne_fault : returnEnabling s ≠ .fault f := (returnFromInterrupt_covered hs).finish_next_ne_fault

omit hs in
theorem jumpIf_ne_fault {cc : Cond} {addr : Word} : jumpIf cc addr s ≠ .fault f := by
  unfold jumpIf
  split <;> nofun

omit hs in
theorem jumpRelativeIf_ne_fault {cc : Cond} {n : Byte} : jumpRelativeIf cc n s ≠ .fault f := by
  unfold jumpRelativeIf
  split <;> nofun

omit hs in
/-- An unimplemented opcode stops the run or is refused (47_system.md R1102); neither is a fault. -/
theorem stopUnimplemented_ne_fault {op : Opcode} : stopUnimplemented op s ≠ .fault f := by
  unfold stopUnimplemented
  split <;> nofun

theorem cbEffect_ne_fault {sub : Byte} : cbEffect sub s ≠ .fault f := by
  unfold cbEffect
  simp only
  split
  · exact next_ne_fault
  · exact shiftHL_ne_fault hs
  · exact next_ne_fault
  · exact testBitHL_ne_fault hs
  · exact next_ne_fault
  · exact changeHL_ne_fault hs
  · exact next_ne_fault
  · exact changeHL_ne_fault hs

/-- No instruction faults: its accesses complete, and the others only change registers. -/
theorem exec_ne_fault (i : Instr) : exec i s ≠ .fault f := by
  cases i
  case ldBIndHL | ldCIndHL | ldDIndHL | ldEIndHL | ldHIndHL | ldLIndHL | ldAIndHL => exact loadByte_ne_fault hs
  case ldAIndBC | ldAIndDE | ldAIndN16 | ldhAIndN8 | ldAIndC => exact loadByte_ne_fault hs
  case ldIndHLB | ldIndHLC | ldIndHLD | ldIndHLE | ldIndHLH | ldIndHLL | ldIndHLA => exact storeByte_ne_fault hs
  case ldIndHLN8 | ldIndBCA | ldIndDEA | ldIndN16A | ldhIndN8A | ldIndCA => exact storeByte_ne_fault hs
  case ldAIndHLInc | ldAIndHLDec => exact loadAndStep_ne_fault hs
  case ldIndHLIncA | ldIndHLDecA => exact storeAndStep_ne_fault hs
  case ldIndN16SP => exact storeSP_ne_fault hs
  case pushBC | pushDE | pushHL | pushAF => exact pushPair_ne_fault hs
  case popBC | popDE | popHL | popAF => exact popPair_ne_fault hs
  case addAIndHL | adcAIndHL | subIndHL | sbcAIndHL | andIndHL | xorIndHL | orIndHL | cpIndHL => exact withHL_ne_fault hs
  case incIndHL | decIndHL => exact modifyHL_ne_fault hs
  case rlcIndHL | rrcIndHL | rlIndHL | rrIndHL | slaIndHL | sraIndHL | swapIndHL | srlIndHL => exact shiftHL_ne_fault hs
  case bit0IndHL | bit1IndHL | bit2IndHL | bit3IndHL | bit4IndHL | bit5IndHL | bit6IndHL | bit7IndHL =>
    exact testBitHL_ne_fault hs
  case res0IndHL | res1IndHL | res2IndHL | res3IndHL | res4IndHL | res5IndHL | res6IndHL | res7IndHL =>
    exact changeHL_ne_fault hs
  case set0IndHL | set1IndHL | set2IndHL | set3IndHL | set4IndHL | set5IndHL | set6IndHL | set7IndHL =>
    exact changeHL_ne_fault hs
  case callN16 | rst00 | rst08 | rst10 | rst18 | rst20 | rst28 | rst30 | rst38 => exact callTo_ne_fault hs
  case callNZN16 | callZN16 | callNCN16 | callCN16 => exact callIf_ne_fault hs
  case ret => exact returnTo_ne_fault hs
  case retNZ | retZ | retNC | retC => exact returnIf_ne_fault hs
  case reti => exact returnEnabling_ne_fault hs
  case jpNZN16 | jpZN16 | jpNCN16 | jpCN16 => exact jumpIf_ne_fault
  case jrNZE8 | jrZE8 | jrNCE8 | jrCE8 => exact jumpRelativeIf_ne_fault
  case prefixCb => exact cbEffect_ne_fault hs
  case stop | unassignedD3 | unassignedDB | unassignedDD | unassignedE3 | unassignedE4 | unassignedEB | unassignedEC |
      unassignedED | unassignedF4 | unassignedFC | unassignedFD => exact stopUnimplemented_ne_fault
  all_goals nofun

/-! ### The CPU step -/

theorem runOpcode_ne_fault (op : Opcode) : runOpcode op s ≠ .fault f := by
  unfold runOpcode
  split
  · exact next_ne_fault
  · split
    · refine (fetchOperand_covered hs op).finish_ne_fault fun i s1 h1 => ?_
      split
      · exact next_ne_fault
      · next hf => exact absurd hf (exec_ne_fault h1 i)
      · nofun
    · exact next_ne_fault

theorem cpuStep_ne_fault : cpuStep s ≠ .fault f := by
  unfold cpuStep
  split
  · exact (takeInterrupt_covered hs).finish_next_ne_fault
  · split
    · exact next_ne_fault
    · exact (fetchOpcode_covered hs).finish_ne_fault fun op _ h => runOpcode_ne_fault h op

/-! ### The ticks -/

theorem requestIf_covered (b : Bool) (k : Nat) : (requestIf b k s).Covered where
  inv := requestIf_inv hs.inv b k
  slots := by rw [requestIf_same b k s]; exact hs.slots
  image := by rw [requestIf_same b k s]; exact hs.image

theorem dmaStep_covered (op : DmaOp) : (dmaStep op s).Completes := by
  cases op with
  | read src => exact (readByte_covered hs src).andThen fun _ _ h => .ok h
  | write i v => exact writeByte_covered hs _ v
  | copy src i => exact (readByte_covered hs src).andThen fun v _ h => writeByte_covered h _ v

omit hs in
theorem dmaRun_covered (ops : List DmaOp) {s : State} (hs : s.Covered) : (dmaRun ops s).Completes := by
  induction ops generalizing s with
  | nil => exact .ok hs
  | cons op rest ih => exact (dmaStep_covered hs op).andThen fun _ _ h => ih h

theorem dmaTick_covered (a : AgentTicks) : (dmaTick a s).Completes :=
  (dmaRun_covered a.dmaOps hs).andThen fun _ _ h => .ok (requestIf_covered h _ _)

/-- The ticks of the agents make the DMA agent's accesses, which complete; the PPU's tick makes none that can fault. -/
theorem ticks_ne_fault (k : StepKind) : ticks k s ≠ .fault f := by
  have hkeypad : (keypadTick (nextAgentTicks s) s).Covered := requestIf_covered (requestIf_covered hs _ _) _ _
  obtain ⟨⟨⟩, s1, h1, -⟩ := dmaTick_covered hkeypad (nextAgentTicks s)
  unfold ticks agentsTick
  rw [h1]
  nofun

end

/-- Settles O18: the CPU step's and the ticks' accesses all complete, since a covered state stays covered under each. -/
theorem noFaultWhenTheImageCoversEveryBank : Obligations.NoFaultWhenTheImageCoversEveryBank := by
  unfold Obligations.NoFaultWhenTheImageCoversEveryBank
  intro s f hinv hslots himage
  have hs : s.Covered := ⟨hinv, hslots, himage⟩
  cases hr : s.run with
  | stopped r =>
    unfold step systemStep
    rw [hr]
    nofun
  | running =>
    rw [step_of_running hr]
    split
    · next s1 k hc =>
      split
      · exact ticks_ne_fault ((cpuStep_runs hc).covered hs) k
      · exact next_ne_fault
    · next hc => exact absurd hc (cpuStep_ne_fault hs)
    · nofun

/-! ### What no step changes -/

/-- The ticks change neither the ROM image, the cartridge type, the slot table nor the parameters (20_memory.md R202,
10_state.md R115). -/
theorem ticks_configuration {k : StepKind} {s t : State} (e : ticks k s = .next t) :
    t.rom = s.rom ∧ t.romLen = s.romLen ∧ t.hasMBC1 = s.hasMBC1 ∧ t.slots = s.slots ∧ t.params = s.params := by
  obtain ⟨⟨⟩, s1, h, e⟩ := finish_eq_next.1 e
  cases e
  obtain ⟨u, hu, rfl⟩ := agentsTick_ok h
  rw [ppuTick_same, hu]
  exact ⟨rfl, rfl, rfl, rfl, rfl⟩

/-- Settles O17: neither the CPU step (`cpuStep_runs`) nor the ticks change them, and only a run that is on steps. -/
theorem romAndConfigurationNeverChange : Obligations.RomAndConfigurationNeverChange := by
  unfold Obligations.RomAndConfigurationNeverChange
  intro s t e
  obtain ⟨hrun, s1, k, hcpu, h⟩ := step_next e
  have hsame := (cpuStep_runs hcpu).same
  rcases h with ⟨-, hticks⟩ | ⟨-, rfl⟩
  · obtain ⟨hrom, hlen, hmbc, hslots, hparams⟩ := ticks_configuration hticks
    rw [hrom, hlen, hmbc, hslots, hparams, hsame]
    exact ⟨rfl, rfl, rfl, rfl, rfl, fun _ => hrun⟩
  · rw [hsame]
    exact ⟨rfl, rfl, rfl, rfl, rfl, fun _ => hrun⟩

end Sys2Proof.Machine
end

section
/-! ## The address space: what a byte access does in each place, and the frame of a write -/

namespace Sys2Proof.Machine

open Sys2Proof

/-! ### The I/O multiplexer -/

/-- Settles O24: each clause is one branch of the lookup. -/
theorem slotMultiplexer : Obligations.SlotMultiplexer := by
  unfold Obligations.SlotMultiplexer slotRead slotWrite
  intro s slot v
  refine ⟨fun e h hl hr => ?_, fun e h hl hw => ?_, fun e hl hr => ?_, fun e hl hw => ?_, fun hl hne => ?_, fun hl => ?_⟩
  · simp only [hl, hr]
  · simp only [hl, hw]
  · simp only [hl, hr]
  · simp only [hl, hw]
  · simp only [hl, if_neg hne, and_self]
  · simp only [hl, if_pos, and_self]

/-! ### The places of the address space -/

theorem homeAddr_of_echo {addr : Word} (h : region addr = .echo) : homeAddr addr = addr.toNat - 0x2000 := if_pos h

theorem homeAddr_of_ne_echo {addr : Word} (h : region addr ≠ .echo) : homeAddr addr = addr.toNat := if_neg h

/-- The I/O slot behind an address (20_memory.md R201, R203). -/
def slotAt (addr : Word) : Option Slot :=
  match region addr with
  | .io => some (.io (addr.toNat - 0xFF00))
  | .ieSlot => some .ie
  | _ => none

/-- What lies behind an address (20_memory.md R201): ROM, a byte of storage, the gap, or an I/O slot. -/
inductive Place (addr : Word) : Prop where
  | rom (h : addr.toNat < 0x8000)
  | storage (h : isStorage (homeAddr addr) = true)
  | gap (h : region addr = .gap)
  | slot (slot : Slot) (h : slotAt addr = some slot)

/-- The regions of storage (10_state.md R113, 20_memory.md R205). -/
theorem isStorage_homeAddr_iff {addr : Word} : isStorage (homeAddr addr) = true ↔
    region addr ∈ [Region.vram, .extRam, .wram0, .wram1, .echo, .oam, .hram] := by
  cases hr : region addr
  all_goals
    have hb := region_bounds hr
    simp [homeAddr, hr, isStorage, Region.bounds] at hb ⊢
    omega

theorem place (addr : Word) : Place addr := by
  have hb := region_bounds (addr := addr) rfl
  cases hr : region addr <;> simp only [hr, Region.bounds] at hb
  case romFixed | romBanked => exact .rom (by omega)
  case gap => exact .gap hr
  case io => exact .slot (.io (addr.toNat - 0xFF00)) (by simp [slotAt, hr])
  case ieSlot => exact .slot .ie (by simp [slotAt, hr])
  all_goals exact .storage (isStorage_homeAddr_iff.2 (by simp [hr]))

theorem index_io (n : Nat) : (Slot.io n).index = n := rfl
theorem index_ie : Slot.ie.index = 0xFF := rfl

/-- A slot's address, which is no echo of another. -/
theorem homeAddr_of_slotAt {addr : Word} {slot : Slot} (h : slotAt addr = some slot) :
    homeAddr addr = addr.toNat ∧ addr.toNat = 0xFF00 + slot.index := by
  have hb := region_bounds (addr := addr) rfl
  unfold slotAt at h
  split at h <;> cases h
  · next hr =>
    simp only [hr, Region.bounds] at hb
    exact ⟨homeAddr_of_ne_echo (by simp [hr]), by rw [index_io]; omega⟩
  · next hr =>
    simp only [hr, Region.bounds] at hb
    exact ⟨homeAddr_of_ne_echo (by simp [hr]), by rw [index_ie]; omega⟩

/-- A byte of storage under its own address is no echo. -/
theorem homeAddr_of_isStorage {addr : Word} (h : isStorage addr.toNat = true) : homeAddr addr = addr.toNat := by
  refine homeAddr_of_ne_echo fun hr => ?_
  have hb := region_bounds hr
  simp [Region.bounds, isStorage] at hb h
  omega

/-- The echo and the working RAM 0x2000 lower are one storage (20_memory.md R205). -/
theorem homeAddr_echo {addr : Word} (h1 : 0xE000 ≤ addr.toNat) (h2 : addr.toNat < 0xFE00) :
    homeAddr (addr - 0x2000) = homeAddr addr ∧ isStorage (homeAddr addr) = true := by
  have hr : region addr = .echo := region_of .echo h1 h2
  obtain ⟨hr', hn⟩ := region_of_echo hr
  have hne : region (addr - 0x2000) ≠ .echo := by rcases hr' with h | h <;> rw [h] <;> nofun
  exact ⟨by rw [homeAddr_of_ne_echo hne, homeAddr_of_echo hr, hn], isStorage_homeAddr_iff.2 (by simp [hr])⟩

/-! ### What a byte access does in each place -/

theorem readByte_of_rom {addr : Word} (h : addr.toNat < 0x8000) (s : State) :
    readByte s addr = romRead s addr (romOffset s addr) := by
  unfold readByte
  by_cases h' : addr.toNat < 0x4000
  · rw [region_of .romFixed (Nat.zero_le _) h']
  · rw [region_of .romBanked (Nat.le_of_not_lt h') h]

theorem writeByte_of_rom {addr : Word} (h : addr.toNat < 0x8000) (s : State) (v : Byte) :
    writeByte s addr v = .ok () (bankControl s addr v) := by
  unfold writeByte
  by_cases h' : addr.toNat < 0x4000
  · rw [region_of .romFixed (Nat.zero_le _) h']
  · rw [region_of .romBanked (Nat.le_of_not_lt h') h]

theorem readByte_of_storage {addr : Word} (h : isStorage (homeAddr addr) = true) (s : State) :
    readByte s addr = .ok (s.ram.read (homeAddr addr)) s := by
  unfold readByte
  rw [isStorage_homeAddr_iff] at h
  cases hr : region addr
  case echo => rw [homeAddr_of_echo hr]
  case vram | extRam | wram0 | wram1 | oam | hram => rw [homeAddr_of_ne_echo (by simp [hr])]
  all_goals simp [hr] at h

theorem writeByte_of_storage {addr : Word} (h : isStorage (homeAddr addr) = true) (s : State) (v : Byte) :
    writeByte s addr v = .ok () (ramWrite s (homeAddr addr) v) := by
  unfold writeByte
  rw [isStorage_homeAddr_iff] at h
  cases hr : region addr
  case echo => rw [homeAddr_of_echo hr]
  case vram | extRam | wram0 | wram1 | oam | hram => rw [homeAddr_of_ne_echo (by simp [hr])]
  all_goals simp [hr] at h

/-- The gap reads as 0 and drops what is written (20_memory.md R206). -/
theorem access_of_gap {addr : Word} (h : region addr = .gap) (s : State) (v : Byte) :
    readByte s addr = .ok 0x00 s ∧ writeByte s addr v = .ok () s := by
  unfold readByte writeByte
  rw [h]
  exact ⟨rfl, rfl⟩

theorem access_of_slot {addr : Word} {slot : Slot} (h : slotAt addr = some slot) (s : State) (v : Byte) :
    readByte s addr = slotRead s slot ∧ writeByte s addr v = slotWrite s slot v := by
  unfold readByte writeByte
  unfold slotAt at h
  split at h <;> cases h
  all_goals
    rename_i hr
    rw [hr]
    exact ⟨rfl, rfl⟩

/-- 0xFFFF names the IE slot (20_memory.md R207). -/
theorem slotAt_ie {addr : Word} (h : addr.toNat = 0xFFFF) : slotAt addr = some .ie := by
  unfold slotAt
  rw [region_of .ieSlot (by simp [Region.bounds, h]) (by simp [Region.bounds, h])]

/-- 0xFF00 + n names slot n (20_memory.md R203). -/
theorem slotAt_io {addr : Word} (h1 : 0xFF00 ≤ addr.toNat) (h2 : addr.toNat < 0xFF80) :
    slotAt addr = some (.io (addr.toNat - 0xFF00)) := by
  unfold slotAt
  rw [region_of .io h1 h2]

/-- An access of a storage byte under its own address. -/
theorem access_of_isStorage {addr : Word} (h : isStorage addr.toNat = true) (s : State) (v : Byte) :
    readByte s addr = .ok (s.ram.read addr.toNat) s ∧
      writeByte s addr v = .ok () { s with ram := s.ram.write addr.toNat v } := by
  have hh := homeAddr_of_isStorage h
  rw [readByte_of_storage (by rw [hh]; exact h), writeByte_of_storage (by rw [hh]; exact h), hh]
  exact ⟨rfl, rfl⟩

/-- An access of the echo is that of the working RAM 0x2000 lower (20_memory.md R205). -/
theorem access_of_echo {addr : Word} (h1 : 0xE000 ≤ addr.toNat) (h2 : addr.toNat < 0xFE00) (s : State) (v : Byte) :
    readByte s addr = readByte s (addr - 0x2000) ∧ writeByte s addr v = writeByte s (addr - 0x2000) v := by
  obtain ⟨hh, hst⟩ := homeAddr_echo h1 h2
  have hst' : isStorage (homeAddr (addr - 0x2000)) = true := hh ▸ hst
  rw [readByte_of_storage hst, readByte_of_storage hst', writeByte_of_storage hst, writeByte_of_storage hst', hh]
  exact ⟨rfl, rfl⟩

theorem romOffset_fixed {addr : Word} (h : addr.toNat < 0x4000) (s : State) : romOffset s addr = addr.toNat := if_pos h

theorem romOffset_banked {addr : Word} (h : 0x4000 ≤ addr.toNat) (s : State) :
    romOffset s addr = s.romBank * 0x4000 + (addr.toNat - 0x4000) := if_neg (Nat.not_lt_of_le h)

theorem romRead_inside {s : State} {offset : Nat} (h : offset < s.romLen) (addr : Word) :
    romRead s addr offset = .ok (s.rom.read offset) s := if_pos h

theorem romRead_outside {s : State} {offset : Nat} (h : s.romLen ≤ offset) (addr : Word) :
    romRead s addr offset = .fault (.romOutOfRange addr offset) := if_neg (Nat.not_lt_of_le h)

/-- Settles O22: each range is one place, and ROM reads at its offset. -/
theorem readByteDecodesTheAddress : Obligations.ReadByteDecodesTheAddress := by
  unfold Obligations.ReadByteDecodesTheAddress
  intro s addr
  refine ⟨fun h hin => ?_, fun h hout => ?_, fun h1 h2 hin => ?_, fun h1 h2 hout => ?_,
    fun h1 h2 => (access_of_isStorage (by simp [isStorage]; omega) s 0).1,
    fun h1 h2 => (access_of_echo h1 h2 s 0).1,
    fun h1 h2 => (access_of_isStorage (by simp [isStorage]; omega) s 0).1,
    fun h1 h2 => (access_of_gap (region_of .gap h1 h2) s 0).1,
    fun h1 h2 => (access_of_slot (slotAt_io h1 h2) s 0).1,
    fun h1 h2 => (access_of_isStorage (by simp [isStorage]; omega) s 0).1,
    fun h => (access_of_slot (slotAt_ie h) s 0).1⟩
  · rw [readByte_of_rom (by omega), romOffset_fixed h, romRead_inside hin]
  · rw [readByte_of_rom (by omega), romOffset_fixed h, romRead_outside hout]
  · rw [readByte_of_rom h2, romOffset_banked h1, romRead_inside hin]
  · rw [readByte_of_rom h2, romOffset_banked h1, romRead_outside hout]

/-- Only 0x2000..0x3FFF selects a bank (20_memory.md R211). -/
theorem bankControl_outside {addr : Word} (h : addr.toNat < 0x2000 ∨ 0x4000 ≤ addr.toNat) (s : State) (v : Byte) :
    bankControl s addr v = s := by
  refine if_neg ?_
  simp
  omega

/-- A write of 0x2000..0x3FFF selects a bank if the cartridge has an MBC1 (20_memory.md R210). -/
theorem bankControl_select {addr : Word} (h1 : 0x2000 ≤ addr.toNat) (h2 : addr.toNat < 0x4000) (s : State) (v : Byte) :
    bankControl s addr v = if s.hasMBC1 = true then { s with romBank := bankOf v } else s := by
  simp [bankControl, h1, h2]

/-- Settles O23: each range is one place; a write changes only storage, and the ROM image is none. -/
theorem writeByteDecodesTheAddress : Obligations.WriteByteDecodesTheAddress := by
  unfold Obligations.WriteByteDecodesTheAddress
  intro s addr v
  refine ⟨fun h => ?_, fun h1 h2 => ?_, fun h1 h2 => ?_,
    fun h1 h2 => (access_of_isStorage (by simp [isStorage]; omega) s v).2,
    fun h1 h2 => (access_of_echo h1 h2 s v).2,
    fun h1 h2 => (access_of_isStorage (by simp [isStorage]; omega) s v).2,
    fun h1 h2 => (access_of_gap (region_of .gap h1 h2) s v).2,
    fun h1 h2 => (access_of_slot (slotAt_io h1 h2) s v).2,
    fun h1 h2 => (access_of_isStorage (by simp [isStorage]; omega) s v).2,
    fun h => (access_of_slot (slotAt_ie h) s v).2, fun t e => ?_⟩
  · rw [writeByte_of_rom (by omega), bankControl_outside (.inl h)]
  · rw [writeByte_of_rom (by omega), bankControl_select h1 h2]; rfl
  · rw [writeByte_of_rom h2, bankControl_outside (.inr h1)]
  · rw [writeByte_ok e]
    exact ⟨rfl, rfl⟩

/-- Settles O28: `readWord` and `writeWord` chain two byte accesses, and a word is its two bytes. -/
theorem wordAccessIsTwoByteAccesses : Obligations.WordAccessIsTwoByteAccesses := by
  unfold Obligations.WordAccessIsTwoByteAccesses
  refine ⟨fun s s1 s2 addr lo hi hlo hhi => ?_, fun s t addr v e => ?_, fun s t addr v => ⟨fun e => ?_, ?_⟩⟩
  · unfold readWord
    rw [hlo, andThen_ok, hhi, andThen_ok]
    rfl
  · obtain ⟨lo, hi, s1, hlo, hhi, rfl, -⟩ := readWord_ok e
    refine ⟨s1, hlo.trans ?_, hhi.trans ?_⟩
    · exact congrArg (Access.ok · s1) (loByte_wordOf hi lo).symm
    · exact congrArg (Access.ok · t) (hiByte_wordOf hi lo).symm
  · obtain ⟨s1, hlo, hhi, -⟩ := writeWord_ok e
    exact ⟨s1, hlo, hhi⟩
  · rintro ⟨s1, hlo, hhi⟩
    exact andThen_eq_ok.2 ⟨(), s1, hlo, hhi⟩

/-! ### What a read would give -/

theorem peek_of_rom {addr : Word} (h : addr.toNat < 0x8000) (s : State) :
    s.peek addr = if romOffset s addr < s.romLen then some (s.rom.read (romOffset s addr)) else none := by
  unfold State.peek
  rw [readByte_of_rom h]
  unfold romRead
  split <;> rfl

theorem peek_of_storage {addr : Word} (h : isStorage (homeAddr addr) = true) (s : State) :
    s.peek addr = some (s.ram.read (homeAddr addr)) := by
  unfold State.peek
  rw [readByte_of_storage h, value_ok]

theorem peek_of_gap {addr : Word} (h : region addr = .gap) (s : State) : s.peek addr = some 0x00 := by
  unfold State.peek
  rw [(access_of_gap h s 0).1, value_ok]

theorem peek_of_slot {addr : Word} {slot : Slot} (h : slotAt addr = some slot) (s : State) :
    s.peek addr = (slotRead s slot).value := by
  unfold State.peek
  rw [(access_of_slot h s 0).1]

/-- What a read gives is decided by the image and the offset into it, by the byte held under the home address, or by the
slot, whichever place the address names. -/
theorem peek_congr_of_place {s t : State} {addr : Word} (hrom : t.rom = s.rom) (hlen : t.romLen = s.romLen)
    (hoff : addr.toNat < 0x8000 → romOffset t addr = romOffset s addr)
    (hram : t.ram.read (homeAddr addr) = s.ram.read (homeAddr addr))
    (hslot : ∀ slot, slotAt addr = some slot → (slotRead t slot).value = (slotRead s slot).value) :
    t.peek addr = s.peek addr := by
  cases place addr with
  | rom h => rw [peek_of_rom h, peek_of_rom h, hoff h, hrom, hlen]
  | storage h => rw [peek_of_storage h, peek_of_storage h, hram]
  | gap h => rw [peek_of_gap h, peek_of_gap h]
  | slot slot h => rw [peek_of_slot h, peek_of_slot h, hslot slot h]

/-- The byte written to storage is read at every address that names it. -/
theorem peek_ramWrite_same {addr other : Word} (h : isStorage (homeAddr addr) = true)
    (hsame : homeAddr other = homeAddr addr) (s : State) (v : Byte) :
    (ramWrite s (homeAddr addr) v).peek other = some v := by
  rw [peek_of_storage (by rw [hsame]; exact h), hsame]
  exact congrArg some (Memory.read_write_same _ _ _)

/-- Settles O29: the write and the reads go to one home address. -/
theorem readAfterWriteAndEcho : Obligations.ReadAfterWriteAndEcho := by
  unfold Obligations.ReadAfterWriteAndEcho
  intro s addr v h
  refine ⟨_, writeByte_of_storage h s v, peek_ramWrite_same h rfl s v, fun h1 h2 => ?_, fun h1 h2 => ?_⟩
  · have hn : (addr + 0x2000).toNat = addr.toNat + 0x2000 := by bv_omega
    have hecho := (homeAddr_echo (addr := addr + 0x2000) (by omega) (by omega)).1
    rw [BitVec.add_sub_cancel] at hecho
    exact peek_ramWrite_same h hecho.symm s v
  · exact peek_ramWrite_same h (homeAddr_echo h1 h2).1 s v

/-- MBC1 keeps the low five bits of the value (20_memory.md R210). -/
theorem bankOf_eq (v : Byte) : bankOf v = max 1 (v.toNat % 32) := by
  unfold bankOf
  rw [BitVec.toNat_and]
  exact congrArg (max 1) (Nat.and_two_pow_sub_one_eq_mod v.toNat 5)

/-- Settles O31: the select writes the bank register, and a read of the window takes its offset from it. -/
theorem bankSelectMovesTheWindow : Obligations.BankSelectMovesTheWindow := by
  unfold Obligations.BankSelectMovesTheWindow
  intro s sel addr v hmbc hsel1 hsel2 haddr1 haddr2 hin
  rw [← bankOf_eq] at hin ⊢
  refine ⟨{ s with romBank := bankOf v }, ?_, ?_⟩
  · rw [writeByte_of_rom (by omega), bankControl_select hsel1 hsel2, if_pos hmbc]
  · rw [peek_of_rom haddr2, romOffset_banked haddr1]
    exact if_pos hin

/-! ### The frame of a write -/

/-- Everything a completed byte write can do: bank control, one byte of storage, nothing, or one register's callback. -/
inductive WriteEffect (s : State) (addr : Word) (v : Byte) : State → Prop where
  | bank : addr.toNat < 0x8000 → WriteEffect s addr v (bankControl s addr v)
  | storage : isStorage (homeAddr addr) = true → WriteEffect s addr v (ramWrite s (homeAddr addr) v)
  | nothing : WriteEffect s addr v s
  | register (slot : Slot) (entry : SlotEntry) (h : Handler) : slotAt addr = some slot →
      lookupSlot s.slots slot = some entry → entry.write = some h → WriteEffect s addr v (handlerWrite h slot v s)

theorem writeEffect_of_writeByte {s t : State} {addr : Word} {v : Byte} (e : writeByte s addr v = .ok () t) :
    WriteEffect s addr v t := by
  cases place addr with
  | rom h => rw [writeByte_of_rom h] at e; cases e; exact .bank h
  | storage h => rw [writeByte_of_storage h] at e; cases e; exact .storage h
  | gap h => rw [(access_of_gap h s v).2] at e; cases e; exact .nothing
  | slot slot hat =>
    rw [(access_of_slot hat s v).2] at e
    unfold slotWrite at e
    split at e
    · next entry hl =>
      split at e <;> cases e
      · next h hw => exact .register slot entry h hat hl hw
      · exact .nothing
    · split at e <;> cases e
      exact .nothing

/-- In the default table a register is written and read through one slot only; the external agents' slots share a handler,
whose record of writes no read depends on (10_state.md R116, 20_memory.md R213). -/
theorem resetSlots_one_slot : ∀ e ∈ resetSlots, ∀ e' ∈ resetSlots,
    e.write = e'.read → e.slot = e'.slot ∨ e.write = some .external := by decide

theorem resetSlots_ly : ∀ e ∈ resetSlots, e.write = some .ly → e.slot = .io 0x44 := by decide

theorem resetSlots_external : ∀ e ∈ resetSlots, e.write = some .external →
    e.slot.index ∈ Config.peripheralSlots := by decide

theorem handlerWrite_memories (h : Handler) (slot : Slot) (v : Byte) (s : State) :
    (handlerWrite h slot v s).romBank = s.romBank ∧ (handlerWrite h slot v s).ram = s.ram := by
  cases h <;> exact ⟨rfl, rfl⟩

/-- A register's write callback leaves what every other register's read callback gives. -/
theorem handlerRead_handlerWrite_value {h h' : Handler} (hne : h = h' → h = .external) (slot slot' : Slot) (v : Byte)
    (s : State) : (handlerRead h' slot' (handlerWrite h slot v s)).value = (handlerRead h' slot' s).value := by
  by_cases heq : h = h'
  · subst heq
    rw [hne rfl]
    rfl
  · cases h <;> cases h' <;> simp [handlerRead, handlerWrite, Ppu.writeLY] at heq ⊢

/-- Only the callback of LY writes the scanline state (10_state.md R123). -/
theorem handlerWrite_scanline {h : Handler} (hne : h ≠ .ly) (slot : Slot) (v : Byte) (s : State) :
    (handlerWrite h slot v s).ppu.line = s.ppu.line ∧ (handlerWrite h slot v s).ppu.counter = s.ppu.counter ∧
      (handlerWrite h slot v s).ppu.mode = s.ppu.mode := by
  cases h
  case ly => exact absurd rfl hne
  all_goals exact ⟨rfl, rfl, rfl⟩

/-- Only an external agent's callback records a write (20_memory.md R213). -/
theorem handlerWrite_periphWrites {h : Handler} (hne : h ≠ .external) (slot : Slot) (v : Byte) (s : State) :
    (handlerWrite h slot v s).periphWrites = s.periphWrites := by
  cases h
  case external => exact absurd rfl hne
  all_goals rfl

/-- In the default table a write through one slot leaves what a read of every other gives. -/
theorem slotRead_handlerWrite_value {s : State} (hs : s.slots = resetSlots) {slot slot' : Slot} {entry : SlotEntry}
    {h : Handler} (hl : lookupSlot s.slots slot = some entry) (hw : entry.write = some h) (hne : slot ≠ slot') (v : Byte) :
    (slotRead (handlerWrite h slot v s) slot').value = (slotRead s slot').value := by
  have hslots : (handlerWrite h slot v s).slots = s.slots := by rw [handlerWrite_same h slot v s]
  obtain ⟨hslot, hmem⟩ := lookupSlot_slot hl
  rw [hs] at hmem
  unfold slotRead
  rw [hslots]
  split
  · next entry' hl' =>
    obtain ⟨hslot', hmem'⟩ := lookupSlot_slot hl'
    rw [hs] at hmem'
    split
    · next h' hr =>
      refine handlerRead_handlerWrite_value (fun heq => ?_) slot slot' v s
      rcases resetSlots_one_slot entry hmem entry' hmem' (by rw [hw, hr, heq]) with hsame | hext
      · exact absurd (hslot.symm.trans (hsame.trans hslot')) hne
      · exact Option.some.inj (hw.symm.trans hext)
    · rfl
  · split <;> rfl

theorem touches_eq_false {s : State} {addr other : Word} : s.touches addr other = false ↔
    homeAddr addr ≠ homeAddr other ∧ ¬ (s.hasMBC1 = true ∧ 0x2000 ≤ addr.toNat ∧ addr.toNat < 0x4000 ∧
      0x4000 ≤ other.toNat ∧ other.toNat < 0x8000) := by
  simp [State.touches]

/-- Only a bank select with an MBC1 changes the bank register (20_memory.md R210, R211). -/
theorem bankControl_cases (s : State) (addr : Word) (v : Byte) : bankControl s addr v = s ∨
    (s.hasMBC1 = true ∧ 0x2000 ≤ addr.toNat ∧ addr.toNat < 0x4000) ∧
      bankControl s addr v = { s with romBank := bankOf v } := by
  unfold bankControl
  split
  · next h => exact .inr ⟨by simpa [and_assoc] using h, rfl⟩
  · exact .inl rfl

/-- An address that a write does not touch reads as before. -/
theorem WriteEffect.peek_frame {s t : State} {addr other : Word} {v : Byte} (hs : s.slots = resetSlots)
    (e : WriteEffect s addr v t) (h : s.touches addr other = false) : t.peek other = s.peek other := by
  obtain ⟨hhome, hwindow⟩ := touches_eq_false.1 h
  cases e with
  | bank =>
    obtain hb | ⟨⟨hmbc, h1, h2⟩, hb⟩ := bankControl_cases s addr v <;> rw [hb]
    refine peek_congr_of_place rfl rfl (fun hrom => ?_) rfl fun slot _ => ?_
    · have hfixed : other.toNat < 0x4000 := Nat.lt_of_not_le fun h4 => hwindow ⟨hmbc, h1, h2, h4, hrom⟩
      rw [romOffset_fixed hfixed, romOffset_fixed hfixed]
    · apply slotRead_value_congr <;> rfl
  | storage =>
    refine peek_congr_of_place rfl rfl (fun _ => rfl) ?_ fun slot _ => ?_
    · exact Memory.read_write_other _ _ (Ne.symm hhome)
    · apply slotRead_value_congr <;> rfl
  | nothing => rfl
  | register slot entry hd hat hl hw =>
    have hsame := handlerWrite_same hd slot v s
    obtain ⟨hbank, hram⟩ := handlerWrite_memories hd slot v s
    refine peek_congr_of_place (by rw [hsame]) (by rw [hsame]) (fun _ => ?_) (by rw [hram]) fun slot' hat' => ?_
    · unfold romOffset
      rw [hbank]
    · refine slotRead_handlerWrite_value hs hl hw (fun heq => hhome ?_) v
      obtain ⟨ha, hn⟩ := homeAddr_of_slotAt hat
      obtain ⟨ha', hn'⟩ := homeAddr_of_slotAt hat'
      rw [ha, ha', hn, hn', heq]

/-- Only a bank select changes the bank register. -/
theorem WriteEffect.romBank_frame {s t : State} {addr : Word} {v : Byte} (e : WriteEffect s addr v t)
    (h : t.romBank ≠ s.romBank) : s.hasMBC1 = true ∧ 0x2000 ≤ addr.toNat ∧ addr.toNat < 0x4000 := by
  cases e with
  | bank =>
    obtain hb | ⟨hc, -⟩ := bankControl_cases s addr v
    · rw [hb] at h; exact absurd rfl h
    · exact hc
  | storage => exact absurd rfl h
  | nothing => exact absurd rfl h
  | register slot entry hd => exact absurd (handlerWrite_memories hd slot v s).1 h

/-- Only a write of LY changes the scanline state (10_state.md R123). -/
theorem WriteEffect.scanline_frame {s t : State} {addr : Word} {v : Byte} (hs : s.slots = resetSlots)
    (e : WriteEffect s addr v t) (h : addr ≠ 0xFF44) :
    t.ppu.line = s.ppu.line ∧ t.ppu.counter = s.ppu.counter ∧ t.ppu.mode = s.ppu.mode := by
  cases e with
  | bank =>
    obtain hb | ⟨-, hb⟩ := bankControl_cases s addr v <;> rw [hb] <;> exact ⟨rfl, rfl, rfl⟩
  | storage => exact ⟨rfl, rfl, rfl⟩
  | nothing => exact ⟨rfl, rfl, rfl⟩
  | register slot entry hd hat hl hw =>
    refine handlerWrite_scanline (fun hly => h ?_) slot v s
    obtain ⟨hslot, hmem⟩ := lookupSlot_slot hl
    have hn := (homeAddr_of_slotAt hat).2
    rw [← hslot, resetSlots_ly entry (hs ▸ hmem) (hly ▸ hw)] at hn
    exact BitVec.eq_of_toNat_eq hn

/-- Only a write of a peripheral's slot is recorded (20_memory.md R213). -/
theorem WriteEffect.periphWrites_frame {s t : State} {addr : Word} {v : Byte} (hs : s.slots = resetSlots)
    (e : WriteEffect s addr v t) (h : t.periphWrites ≠ s.periphWrites) :
    0xFF00 ≤ addr.toNat ∧ addr.toNat - 0xFF00 ∈ Config.peripheralSlots := by
  cases e with
  | bank => obtain hb | ⟨-, hb⟩ := bankControl_cases s addr v <;> exact absurd (by rw [hb]) h
  | storage => exact absurd rfl h
  | nothing => exact absurd rfl h
  | register slot entry hd hat hl hw =>
    obtain rfl : hd = .external := by
      by_contra hne
      exact h (handlerWrite_periphWrites hne slot v s)
    obtain ⟨hslot, hmem⟩ := lookupSlot_slot hl
    obtain ⟨-, hn⟩ := homeAddr_of_slotAt hat
    rw [hn, Nat.add_sub_cancel_left, ← hslot]
    exact ⟨Nat.le_add_right _ _, resetSlots_external entry (hs ▸ hmem) hw⟩

/-- Settles O30: by what a byte write can do (`WriteEffect`), part by part. -/
theorem writeByteFrame : Obligations.WriteByteFrame := by
  unfold Obligations.WriteByteFrame
  intro s t addr v hs e
  have he := writeEffect_of_writeByte e
  exact ⟨writeByte_ok e, fun _ h => he.peek_frame hs h, he.romBank_frame, he.scanline_frame hs, he.periphWrites_frame hs⟩

end Sys2Proof.Machine
end

section
/-! ## Encoding: the decoder and the encoder are inverse, and the field patterns of the encodings -/

namespace Sys2Proof

/-! ### Cells of the base table -/

/-- The instruction of a descriptor with the immediate `nn`, of which a byte immediate is the low byte (30_encoding.md R301). -/
def Descriptor.apply : Descriptor → Word → Instr
  | .op i, _ => i
  | .n8 f, nn => f (loByte nn)
  | .n16 f, nn => f nn

/-- The bytes of the immediate `nn` in a descriptor's format, low byte first (30_encoding.md R301). -/
def Descriptor.operand : Descriptor → Word → List Byte
  | .op _, _ => []
  | .n8 _, nn => [loByte nn]
  | .n16 _, nn => [loByte nn, hiByte nn]

/-- How many immediate bytes a descriptor's format has (30_encoding.md R300). -/
def Descriptor.width : Descriptor → Nat
  | .op _ => 0
  | .n8 _ => 1
  | .n16 _ => 2

@[simp] theorem Descriptor.length_operand (d : Descriptor) (nn : Word) : (d.operand nn).length = d.width := by
  cases d <;> rfl

theorem Descriptor.width_le_two (d : Descriptor) : d.width ≤ 2 := by
  cases d <;> simp [width]

/-- The encoder agrees with the base table, cell by cell (30_encoding.md R309). -/
theorem encode_baseDescriptor_apply (b : Byte) (nn : Word) :
    encode ((baseDescriptor b).apply nn) = b :: (baseDescriptor b).operand nn := by
  obtain ⟨k, hk, rfl⟩ : ∃ k < 256, b = BitVec.ofNat 8 k := ⟨b.toNat, b.isLt, by simp⟩
  interval_cases k <;> rfl

/-- The encoder agrees with the CB table, cell by cell (30_encoding.md R310). -/
theorem encode_cbInstr (sub : Byte) : encode (cbInstr sub) = [0xCB, sub] := by
  obtain ⟨k, hk, rfl⟩ : ∃ k < 256, sub = BitVec.ofNat 8 k := ⟨sub.toNat, sub.isLt, by simp⟩
  interval_cases k <;> rfl

/-! ### The byte 0xCB -/

theorem baseDescriptor_cb : baseDescriptor 0xCB = .n8 .prefixCb := rfl

/-- No cell of the CB table is `prefixCb`: they are constructors of their own (30_encoding.md R313). -/
theorem wf_cbInstr : ∀ sub : Byte, (cbInstr sub).wf = true := by decide

theorem wf_resolvePrefix (i : Instr) : (resolvePrefix i).wf = true := by
  unfold resolvePrefix
  split
  · exact wf_cbInstr _
  next h =>
    unfold Instr.wf
    split
    · exact absurd rfl (h _)
    · rfl

theorem resolvePrefix_of_wf {i : Instr} (h : i.wf = true) : resolvePrefix i = i := by
  unfold resolvePrefix
  split
  · cases h
  · rfl

/-- `prefixCb` with a sub-opcode is a second name for the CB instruction's bytes (30_encoding.md R313). -/
@[simp] theorem encode_resolvePrefix (i : Instr) : encode (resolvePrefix i) = encode i := by
  unfold resolvePrefix
  split
  · exact encode_cbInstr _
  · rfl

/-! ### Decoding by cells -/

/-- What stands after the opcode byte of a cell is read as that cell's immediate. -/
theorem decodeBase_cons_operand (b : Byte) (nn : Word) (rest : List Byte) :
    decodeBase (b :: ((baseDescriptor b).operand nn ++ rest)) = .ok ((baseDescriptor b).apply nn, rest) := by
  cases hd : baseDescriptor b <;> simp [decodeBase, hd, Descriptor.operand, Descriptor.apply]

/-- Whatever the base table decodes is a cell's opcode byte with that cell's immediate. -/
theorem cell_of_decodeBase {bytes rest : List Byte} {i : Instr} (h : decodeBase bytes = .ok (i, rest)) :
    ∃ b nn, i = (baseDescriptor b).apply nn ∧ bytes = b :: ((baseDescriptor b).operand nn ++ rest) := by
  unfold decodeBase at h
  split at h
  · cases h
  next b tail =>
    refine ⟨b, ?_⟩
    split at h <;> cases h
    next hd => exact ⟨0, by rw [hd]; exact ⟨rfl, rfl⟩⟩
    next f n hd => exact ⟨wordOf 0 n, by simp [hd, Descriptor.apply, Descriptor.operand]⟩
    next f lo hi hd => exact ⟨wordOf hi lo, by simp [hd, Descriptor.apply, Descriptor.operand]⟩

/-- Two bytes hold the longest immediate (30_encoding.md R300). -/
theorem Descriptor.exists_operand_append_eq (d : Descriptor) (lo hi : Byte) (rest : List Byte) :
    ∃ rest', d.operand (wordOf hi lo) ++ rest' = lo :: hi :: rest := by
  cases d with
  | op i => exact ⟨_, rfl⟩
  | n8 f => exact ⟨hi :: rest, by simp [operand]⟩
  | n16 f => exact ⟨rest, by simp [operand]⟩

theorem decodeBase_of_three_le_length {bytes : List Byte} (h : 3 ≤ bytes.length) :
    ∃ i rest, decodeBase bytes = .ok (i, rest) := by
  match bytes, h with
  | b :: lo :: hi :: rest, _ =>
    obtain ⟨rest', e⟩ := (baseDescriptor b).exists_operand_append_eq lo hi rest
    exact ⟨_, rest', e ▸ decodeBase_cons_operand b _ rest'⟩

/-- Every well-formed instruction is a cell of the base table with its immediate, with `prefixCb` resolved. -/
theorem cell_of_wf {i : Instr} (h : i.wf = true) : ∃ b nn, resolvePrefix ((baseDescriptor b).apply nn) = i := by
  have hi := resolvePrefix_of_wf h
  obtain ⟨bytes, he⟩ : ∃ bytes, EncodedAs i bytes := ⟨_, encodedAs_encode i h⟩
  cases he with
  | op b _ hd => exact ⟨b, 0, by rwa [hd]⟩
  | n8 b n f _ hd hf => exact ⟨b, wordOf 0 n, by rwa [hd, Descriptor.apply, loByte_wordOf, hf]⟩
  | n16 b nn f _ hd hf => exact ⟨b, nn, by rwa [hd, Descriptor.apply, hf]⟩
  | cb sub hc => exact ⟨0xCB, wordOf 0 sub, by rwa [baseDescriptor_cb, Descriptor.apply, loByte_wordOf]⟩

/-- The bytes of any instruction are an opcode byte and an immediate in the format of its cell. -/
theorem encode_eq_cell (i : Instr) : ∃ b nn, encode i = b :: (baseDescriptor b).operand nn := by
  obtain ⟨b, nn, h⟩ := cell_of_wf (wf_resolvePrefix i)
  refine ⟨b, nn, ?_⟩
  rw [← encode_resolvePrefix i, ← h, encode_resolvePrefix, encode_baseDescriptor_apply]

/-- An instruction's first byte fixes its length through the base table (30_encoding.md R300). -/
theorem length_encode_of_head? {i : Instr} {b : Byte} (h : (encode i).head? = some b) :
    (encode i).length = (baseDescriptor b).width + 1 := by
  obtain ⟨b', nn, e⟩ := encode_eq_cell i
  obtain rfl : b' = b := by simpa [e] using h
  simp [e]

/-- Settles O1: the instruction is a cell of the base table, and decoding reads that cell's bytes back. -/
theorem decodeEncodeRoundTrip : Obligations.DecodeEncodeRoundTrip := by
  unfold Obligations.DecodeEncodeRoundTrip
  intro i rest hwf
  obtain ⟨b, nn, rfl⟩ := cell_of_wf hwf
  rw [encode_resolvePrefix, encode_baseDescriptor_apply]
  exact decode_of_decodeBase (decodeBase_cons_operand b nn rest)

/-- Settles O2: what decodes is a cell's bytes, and resolving `prefixCb` keeps them and gives a well-formed instruction. -/
theorem encodeDecodeRoundTrip : Obligations.EncodeDecodeRoundTrip := by
  unfold Obligations.EncodeDecodeRoundTrip
  intro bytes rest i h
  unfold decode at h
  split at h <;> cases h
  next j hj =>
    obtain ⟨b, nn, rfl, rfl⟩ := cell_of_decodeBase hj
    refine ⟨wf_resolvePrefix _, ?_⟩
    rw [encode_resolvePrefix, encode_baseDescriptor_apply, List.cons_append]

/-- Settles O3: every byte has a cell of the base table, whose format is the instruction's length. -/
theorem decodingIsTotalAndTheFirstByteFixesTheLength :
    Obligations.DecodingIsTotalAndTheFirstByteFixesTheLength := by
  unfold Obligations.DecodingIsTotalAndTheFirstByteFixesTheLength
  refine ⟨fun bytes h => ?_, fun i => ?_, fun i j h => ?_, fun i h => length_encode_of_head? h⟩
  · obtain ⟨i, rest, hi⟩ := decodeBase_of_three_le_length h
    exact ⟨_, rest, decode_of_decodeBase hi, wf_resolvePrefix i⟩
  · obtain ⟨b, nn, e⟩ := encode_eq_cell i
    have := (baseDescriptor b).width_le_two
    simp only [e, List.length_cons, Descriptor.length_operand]
    omega
  · obtain ⟨b, nn, e⟩ := encode_eq_cell i
    have hb : (encode i).head? = some b := by rw [e]; rfl
    rw [length_encode_of_head? hb, length_encode_of_head? (h ▸ hb)]

/-- Settles O4: each word is evaluated through the two tables. -/
theorem specWordsDecode : Obligations.SpecWordsDecode :=
  ⟨rfl, rfl, rfl, rfl, rfl, rfl, rfl, rfl, rfl, rfl, rfl, rfl, rfl, rfl, rfl, rfl⟩

/-! ### The bytes of each form -/

theorem encode_ldR (dst src : R8) : encode (.ldR dst src) = [0b01#2 ++ dst.code ++ src.code] := by
  cases dst <;> cases src <;> rfl

theorem encode_ldN (dst : R8) (n : Byte) : encode (.ldN dst n) = [0b00#2 ++ dst.code ++ 0b110#3, n] := by
  cases dst <;> rfl

theorem encode_ldFromHL (dst : R8) : encode (.ldFromHL dst) = [0b01#2 ++ dst.code ++ 0b110#3] := by
  cases dst <;> rfl

theorem encode_ldToHL (src : R8) : encode (.ldToHL src) = [0b01110#5 ++ src.code] := by
  cases src <;> rfl

theorem encode_ldRP (p : RP) (nn : Word) :
    encode (.ldRP p nn) = [0b00#2 ++ p.code ++ 0b0001#4, loByte nn, hiByte nn] := by
  cases p <;> rfl

theorem encode_push (p : RP2) : encode (.push p) = [0b11#2 ++ p.code ++ 0b0101#4] := by
  cases p <;> rfl

theorem encode_pop (p : RP2) : encode (.pop p) = [0b11#2 ++ p.code ++ 0b0001#4] := by
  cases p <;> rfl

theorem encode_aluR (op : AluOp) (src : R8) : encode (.aluR op src) = [0b10#2 ++ op.code ++ src.code] := by
  cases op <;> cases src <;> rfl

theorem encode_aluHL (op : AluOp) : encode (.aluHL op) = [0b10#2 ++ op.code ++ 0b110#3] := by
  cases op <;> rfl

theorem encode_aluN (op : AluOp) (n : Byte) : encode (.aluN op n) = [0b11#2 ++ op.code ++ 0b110#3, n] := by
  cases op <;> rfl

theorem encode_incR (dst : R8) : encode (.incR dst) = [0b00#2 ++ dst.code ++ 0b100#3] := by
  cases dst <;> rfl

theorem encode_decR (dst : R8) : encode (.decR dst) = [0b00#2 ++ dst.code ++ 0b101#3] := by
  cases dst <;> rfl

theorem encode_addHL (p : RP) : encode (.addHL p) = [0b00#2 ++ p.code ++ 0b1001#4] := by
  cases p <;> rfl

theorem encode_incRP (p : RP) : encode (.incRP p) = [0b00#2 ++ p.code ++ 0b0011#4] := by
  cases p <;> rfl

theorem encode_decRP (p : RP) : encode (.decRP p) = [0b00#2 ++ p.code ++ 0b1011#4] := by
  cases p <;> rfl

theorem encode_rotR (op : RotOp) (r : R8) : encode (.rotR op r) = [0xCB, 0b00#2 ++ op.code ++ r.code] := by
  cases op <;> cases r <;> rfl

theorem encode_rotHL (op : RotOp) : encode (.rotHL op) = [0xCB, 0b00#2 ++ op.code ++ 0b110#3] := by
  cases op <;> rfl

theorem encode_bitR (b : BitNo) (r : R8) :
    encode (.bitR b r) = [0xCB, 0b01#2 ++ BitVec.ofNat 3 b.toNat ++ r.code] := by
  cases b <;> cases r <;> rfl

theorem encode_resR (b : BitNo) (r : R8) :
    encode (.resR b r) = [0xCB, 0b10#2 ++ BitVec.ofNat 3 b.toNat ++ r.code] := by
  cases b <;> cases r <;> rfl

theorem encode_setR (b : BitNo) (r : R8) :
    encode (.setR b r) = [0xCB, 0b11#2 ++ BitVec.ofNat 3 b.toNat ++ r.code] := by
  cases b <;> cases r <;> rfl

theorem encode_bitHL (b : BitNo) : encode (.bitHL b) = [0xCB, 0b01#2 ++ BitVec.ofNat 3 b.toNat ++ 0b110#3] := by
  cases b <;> rfl

theorem encode_resHL (b : BitNo) : encode (.resHL b) = [0xCB, 0b10#2 ++ BitVec.ofNat 3 b.toNat ++ 0b110#3] := by
  cases b <;> rfl

theorem encode_setHL (b : BitNo) : encode (.setHL b) = [0xCB, 0b11#2 ++ BitVec.ofNat 3 b.toNat ++ 0b110#3] := by
  cases b <;> rfl

theorem encode_jpCond (cc : Cond) (nn : Word) :
    encode (.jpCond cc nn) = [0b110#3 ++ cc.code ++ 0b010#3, loByte nn, hiByte nn] := by
  cases cc <;> rfl

theorem encode_callCond (cc : Cond) (nn : Word) :
    encode (.callCond cc nn) = [0b110#3 ++ cc.code ++ 0b100#3, loByte nn, hiByte nn] := by
  cases cc <;> rfl

theorem encode_jrCond (cc : Cond) (e : Byte) : encode (.jrCond cc e) = [0b001#3 ++ cc.code ++ 0b000#3, e] := by
  cases cc <;> rfl

theorem encode_retCond (cc : Cond) : encode (.retCond cc) = [0b110#3 ++ cc.code ++ 0b000#3] := by
  cases cc <;> rfl

theorem encode_rst (t : RstNo) : encode (.rst t) = [0b11#2 ++ BitVec.ofNat 3 t.toNat ++ 0b111#3] := by
  cases t <;> rfl

/-- Settles O5: form by form, over the values of its fields. -/
theorem encodingsFollowTheFieldPatterns : Obligations.EncodingsFollowTheFieldPatterns := by
  unfold Obligations.EncodingsFollowTheFieldPatterns
  exact ⟨encode_ldR, encode_ldN, encode_ldFromHL, encode_ldToHL, encode_ldRP,
    fun p => ⟨encode_push p, encode_pop p⟩,
    encode_aluR,
    fun op n => ⟨encode_aluHL op, encode_aluN op n⟩,
    fun dst => ⟨encode_incR dst, encode_decR dst⟩,
    fun p => ⟨encode_addHL p, encode_incRP p, encode_decRP p⟩,
    fun op r => ⟨encode_rotR op r, encode_rotHL op⟩,
    fun b r => ⟨encode_bitR b r, encode_resR b r, encode_setR b r⟩,
    fun b => ⟨encode_bitHL b, encode_resHL b, encode_setHL b⟩,
    fun cc nn => ⟨encode_jpCond cc nn, encode_callCond cc nn⟩,
    fun cc e => ⟨encode_jrCond cc e, encode_retCond cc⟩,
    encode_rst⟩

end Sys2Proof
end

section
/-! ## The engine: fetching code, the CPU step by cases, and the system step -/

namespace Sys2Proof.Machine

open Sys2Proof

/-! ### Reads under a moved pc -/

theorem handlerRead_setPC (h : Handler) (slot : Slot) (s : State) (pc : Word) :
    handlerRead h slot (s.setPC pc) = (handlerRead h slot s).andThen fun v t => .ok v (t.setPC pc) := by
  cases h <;> rfl

theorem slotRead_setPC (slot : Slot) (s : State) (pc : Word) :
    slotRead (s.setPC pc) slot = (slotRead s slot).andThen fun v t => .ok v (t.setPC pc) := by
  unfold slotRead
  rw [setPC_slots]
  split
  · split
    · exact handlerRead_setPC _ _ _ _
    · rfl
  · split <;> rfl

/-- No read depends on pc or moves it (20_memory.md R201). -/
theorem readByte_setPC (s : State) (addr pc : Word) :
    readByte (s.setPC pc) addr = (readByte s addr).andThen fun v t => .ok v (t.setPC pc) := by
  cases place addr with
  | rom h =>
    have hoff : romOffset (s.setPC pc) addr = romOffset s addr := rfl
    rw [readByte_of_rom h, readByte_of_rom h, hoff]
    unfold romRead
    rw [setPC_romLen]
    split <;> rfl
  | storage h => rw [readByte_of_storage h, readByte_of_storage h]; rfl
  | gap h => rw [(access_of_gap h _ 0).1, (access_of_gap h _ 0).1]; rfl
  | slot slot h => rw [(access_of_slot h _ 0).1, (access_of_slot h _ 0).1]; exact slotRead_setPC _ _ _

/-! ### Fetching code -/

/-- The state with pc past the bytes of `code` (40_step.md R404). -/
def State.past (s : State) (code : List Byte) : State := s.setPC (s.pc + BitVec.ofNat 16 code.length)

@[simp] theorem State.past_nil (s : State) : s.past [] = s := by simp [past, State.setPC]

@[simp] theorem State.past_past (s : State) (xs ys : List Byte) : (s.past xs).past ys = s.past (xs ++ ys) := by
  simp [past, State.setPC, BitVec.ofNat_add, BitVec.add_assoc]

/-- Code in two parts: the second part stands where pc is after the first. -/
theorem CodeAt.append {s : State} {xs ys : List Byte} (h : CodeAt s (xs ++ ys)) : CodeAt s xs ∧ CodeAt (s.past xs) ys := by
  refine ⟨fun k hk => ?_, fun k hk => ?_⟩
  · rw [h k (by rw [List.length_append]; omega), List.getElem_append_left hk]
  · have hread := h (xs.length + k) (by rw [List.length_append]; omega)
    rw [List.getElem_append_right (by omega), BitVec.ofNat_add, ← BitVec.add_assoc] at hread
    unfold State.past
    rw [readByte_setPC, setPC_pc, hread]
    simp

theorem fetch8_of_codeAt {s : State} {b : Byte} (h : CodeAt s [b]) : fetch8 s = .ok b (s.past [b]) := by
  have hread : readByte s s.pc = .ok b s := by simpa using h 0 (by simp)
  unfold fetch8
  rw [hread]
  rfl

theorem fetch16_of_codeAt {s : State} {lo hi : Byte} (h : CodeAt s [lo, hi]) :
    fetch16 s = .ok (wordOf hi lo) (s.past [lo, hi]) := by
  obtain ⟨hlo, hhi⟩ := CodeAt.append (xs := [lo]) h
  unfold fetch16
  rw [fetch8_of_codeAt hlo, andThen_ok, fetch8_of_codeAt hhi, andThen_ok, State.past_past]
  rfl

/-- An opcode's bytes are fetched as that opcode (40_step.md R403); 0xCB alone is none. -/
theorem fetchOpcode_of_codeAt {s : State} {op : Opcode} (hop : op ≠ .base 0xCB) (h : CodeAt s op.bytes) :
    fetchOpcode s = .ok op (s.past op.bytes) := by
  unfold fetchOpcode
  cases op with
  | base b =>
    have hb : b ≠ 0xCB := fun e => hop (congrArg _ e)
    rw [fetch8_of_codeAt h, andThen_ok, if_neg hb]
    rfl
  | cb sub =>
    obtain ⟨hprefix, hsub⟩ := CodeAt.append (xs := [0xCB]) h
    rw [fetch8_of_codeAt hprefix, andThen_ok, if_pos rfl, fetch8_of_codeAt hsub, andThen_ok, State.past_past]
    rfl

theorem opcodeOf_cons {b : Byte} (hb : b ≠ 0xCB) (rest : List Byte) : opcodeOf (b :: rest) = some (.base b) := if_neg hb

/-- An instruction's bytes are its opcode's and then an immediate whose fetch gives the instruction (40_step.md R403, R404,
30_encoding.md R308). -/
theorem operand_of_encodedAs {i : Instr} {code : List Byte} {op : Opcode} (h : EncodedAs i code)
    (hop : opcodeOf code = some op) :
    op ≠ .base 0xCB ∧ ∃ operand, code = op.bytes ++ operand ∧
      ∀ s, CodeAt s operand → fetchOperand op s = .ok i (s.past operand) := by
  cases h with
  | op b hb hd =>
    obtain rfl : .base b = op := Option.some.inj ((opcodeOf_cons hb _).symm.trans hop)
    exact ⟨by simpa using hb, [], rfl, fun s _ => by simp [fetchOperand, hd]⟩
  | n8 b n f hb hd hf =>
    obtain rfl : .base b = op := Option.some.inj ((opcodeOf_cons hb _).symm.trans hop)
    exact ⟨by simpa using hb, [n], rfl, fun s h => by simp [fetchOperand, hd, fetch8_of_codeAt h, hf]⟩
  | n16 b nn f hb hd hf =>
    obtain rfl : .base b = op := Option.some.inj ((opcodeOf_cons hb _).symm.trans hop)
    exact ⟨by simpa using hb, [loByte nn, hiByte nn], rfl, fun s h => by
      simp [fetchOperand, hd, fetch16_of_codeAt h, hf]⟩
  | cb sub hc =>
    obtain rfl : .cb sub = op := by simpa [opcodeOf] using hop
    exact ⟨nofun, [], rfl, fun s _ => by simp [fetchOperand, hc]⟩

/-- The bytes of a well-formed instruction at pc are fetched as its opcode and then as the instruction, with pc past all of
them in the end (40_step.md R404). -/
theorem fetch_of_codeAt_encode {s : State} {i : Instr} {op : Opcode} (hwf : i.wf = true)
    (hop : opcodeOf (encode i) = some op) (h : CodeAt s (encode i)) :
    fetchOpcode s = .ok op (s.past op.bytes) ∧ fetchOperand op (s.past op.bytes) = .ok i (s.past (encode i)) := by
  obtain ⟨hcb, operand, he, hfetch⟩ := operand_of_encodedAs (encodedAs_encode i hwf) hop
  rw [he] at h ⊢
  obtain ⟨hopcode, hoperand⟩ := h.append
  exact ⟨fetchOpcode_of_codeAt hcb hopcode, by rw [hfetch _ hoperand, State.past_past]⟩

/-! ### The CPU step by cases -/

/-- A halted CPU without a dispatch idles (40_step.md R402). -/
theorem cpuStep_of_halted {s : State} (hd : NoDispatch s) (hh : s.halted = true) : cpuStep s = .next (s, .haltIdle) := by
  unfold cpuStep
  rw [(noDispatch_iff s).1 hd, if_neg nofun, if_pos hh]

/-- An awake CPU without a dispatch goes on with the opcode it fetches (40_step.md R403). -/
theorem cpuStep_of_fetchOpcode {s t : State} {op : Opcode} (hd : NoDispatch s) (hh : s.halted = false)
    (h : fetchOpcode s = .ok op t) : cpuStep s = runOpcode op t := by
  unfold cpuStep
  rw [(noDispatch_iff s).1 hd, if_neg nofun, hh, if_neg nofun, h, finish_ok]

theorem isBreakpoint_eq_none {s : State} {op : Opcode} (h : ∀ b, op = .base b → s.params.breakpoint ≠ some b) :
    isBreakpoint s op = none := by
  cases op with
  | base b => exact if_neg (h b rfl)
  | cb sub => rfl

/-- The breakpoint opcode stops the run, implemented or not (40_step.md R407). -/
theorem runOpcode_of_breakpoint {s : State} {b : Byte} (h : s.params.breakpoint = some b) :
    runOpcode (.base b) s = .next (raiseStop (.breakpoint b) s, .instr (.base b) false) := by
  have hb : isBreakpoint s (.base b) = some b := if_pos h
  unfold runOpcode
  rw [hb]

theorem implemented_eq_true {s : State} {op : Opcode} : implemented s op = true ↔ op ∉ s.params.unimplemented := by
  simp [implemented]

/-- An unimplemented opcode stops the run (40_step.md R405). -/
theorem runOpcode_of_unimplemented {s : State} {op : Opcode} (hb : ∀ b, op = .base b → s.params.breakpoint ≠ some b)
    (h : op ∈ s.params.unimplemented) : runOpcode op s = .next (raiseStop (.unimplemented op) s, .instr op false) := by
  unfold runOpcode
  rw [isBreakpoint_eq_none hb]
  exact if_neg fun hi => implemented_eq_true.1 hi h

/-- An implemented opcode that is no breakpoint runs the instruction its immediate completes (40_step.md R406). -/
theorem runOpcode_of_implemented {s t : State} {op : Opcode} {i : Instr}
    (hb : ∀ b, op = .base b → s.params.breakpoint ≠ some b) (h : op ∉ s.params.unimplemented)
    (hfetch : fetchOperand op s = .ok i t) :
    runOpcode op s =
      match exec i t with
      | .next u => .next (u, .instr op (branchTaken op t))
      | .fault f => .fault f
      | .refused r => .refused r := by
  unfold runOpcode
  rw [isBreakpoint_eq_none hb, hfetch]
  exact if_pos (implemented_eq_true.2 h)

/-- The taken bit depends on the flags alone (46_control.md R1000). -/
@[simp] theorem branchTaken_past (op : Opcode) (s : State) (code : List Byte) :
    branchTaken op (s.past code) = branchTaken op s := by
  cases op <;> rfl

/-! ### The system step -/

/-- A CPU step that leaves the run on is followed by the ticks (40_step.md R420). -/
theorem step_of_cpuStep_running {s t : State} {k : StepKind} (hs : s.run = .running) (h : cpuStep s = .next (t, k))
    (ht : t.run = .running) : step s = ticks k t := by
  rw [step_of_running hs, h]
  simp only [ht]

/-- A CPU step that ends the run is the whole step (60_exceptions.md R1330). -/
theorem step_of_cpuStep_stopped {s t : State} {k : StepKind} {r : StopReason} (hs : s.run = .running)
    (h : cpuStep s = .next (t, k)) (ht : t.run = .stopped r) : step s = .next t := by
  rw [step_of_running hs, h]
  simp only [ht]

/-- A run that has ended takes no step (60_exceptions.md R1330). -/
theorem step_of_stopped {s : State} {r : StopReason} (h : s.run = .stopped r) : step s = .refused .runEnded := by
  unfold step systemStep
  rw [h]

/-- Settles O7: the opcode's fetch moves pc past its bytes alone, and raising the stop writes the run status. -/
theorem stopLeavesOnlyPcAdvanced : Obligations.StopLeavesOnlyPcAdvanced := by
  unfold Obligations.StopLeavesOnlyPcAdvanced
  intro s op hrun hd hh hcb hcode
  have hcpu : cpuStep s = runOpcode op (s.past op.bytes) :=
    cpuStep_of_fetchOpcode hd hh (fetchOpcode_of_codeAt hcb hcode)
  refine ⟨fun hun hb => ?_, fun b hop hb => ?_⟩
  · exact step_of_cpuStep_stopped hrun (hcpu.trans (runOpcode_of_unimplemented hb hun)) rfl
  · subst hop
    exact step_of_cpuStep_stopped hrun (hcpu.trans (runOpcode_of_breakpoint hb)) rfl

/-- Settles O6: the fetches give the instruction with pc past its bytes, and its outcome decides whether anything ticks. -/
theorem stepRunsTheDecodedInstruction : Obligations.StepRunsTheDecodedInstruction := by
  unfold Obligations.StepRunsTheDecodedInstruction
  intro s i op hwf hrun hd hh hop him hb hcode
  obtain ⟨hopcode, hinstr⟩ := fetch_of_codeAt_encode hwf hop hcode
  have hcpu := (cpuStep_of_fetchOpcode hd hh hopcode).trans (runOpcode_of_implemented hb him hinstr)
  rw [branchTaken_past] at hcpu
  have hpast : s.past (encode i) = { s with pc := s.pc + BitVec.ofNat 16 (encode i).length } := rfl
  rw [step_of_running hrun, hcpu, ← hpast]
  cases exec i (s.past (encode i)) <;> rfl

/-- Settles O8: the CPU step idles, and the run is on. -/
theorem haltedStepOnlyTicks : Obligations.HaltedStepOnlyTicks := by
  unfold Obligations.HaltedStepOnlyTicks
  intro s hrun hd hh
  have hcpu := cpuStep_of_halted hd hh
  exact ⟨hcpu, step_of_cpuStep_running hrun hcpu hrun⟩

/-- Settles O11: the step by how the CPU step leaves the run; the ticks are the agents', then the PPU's. -/
theorem systemStepOrder : Obligations.SystemStepOrder := by
  unfold Obligations.SystemStepOrder
  refine ⟨fun s t u v k hs hcpu ht hdma hv => ?_, fun s t k r => step_of_cpuStep_stopped, fun s r => step_of_stopped⟩
  have hagents : agentsTick t = .ok () v := by
    unfold agentsTick
    rw [hdma, andThen_ok, hv]
  rw [step_of_cpuStep_running hs hcpu ht]
  unfold ticks
  rw [hagents, finish_ok]

end Sys2Proof.Machine
end

section
/-! ## The 8-bit loads and the loads of a pair -/

namespace Sys2Proof.Machine

open Sys2Proof

/-! ### Reads after a read -/

/-- At an address whose read draws nothing, the slot's read callback is neither STAT's nor an external agent's
(10_state.md R121, 20_memory.md R213). -/
theorem read_ne_free_of_drawsAt {s : State} {addr : Word} {slot : Slot} {e : SlotEntry} (h : s.drawsAt addr = false)
    (hat : slotAt addr = some slot) (hl : lookupSlot s.slots slot = some e) :
    e.read ≠ some .stat ∧ e.read ≠ some .external := by
  unfold State.drawsAt at h
  unfold slotAt at hat
  split at hat <;> cases hat
  all_goals
    next hr =>
    simp only [hr, hl] at h
    simpa using h

/-- Only the callbacks of STAT and of an external agent depend on the draw counter. -/
theorem handlerRead_value_of_sameButDraws {s t : State} (h : SameButDraws s t) {hd : Handler} (hstat : hd ≠ .stat)
    (hext : hd ≠ .external) (slot : Slot) : (handlerRead hd slot t).value = (handlerRead hd slot s).value := by
  rw [h]
  cases hd
  case stat => exact absurd rfl hstat
  case external => exact absurd rfl hext
  all_goals rfl

/-- After draws, an address whose read draws nothing reads as before. -/
theorem peek_of_sameButDraws {s t : State} (h : SameButDraws s t) {addr : Word} (hd : s.drawsAt addr = false) :
    t.peek addr = s.peek addr := by
  have hslots : t.slots = s.slots := by rw [h]
  refine peek_congr_of_place (by rw [h]) (by rw [h]) (fun _ => by rw [h]; rfl) (by rw [h]) fun slot hat => ?_
  unfold slotRead
  rw [hslots]
  split
  · next e hl =>
    obtain ⟨hstat, hext⟩ := read_ne_free_of_drawsAt hd hat hl
    split
    · next hd' hr =>
      exact handlerRead_value_of_sameButDraws h (fun he => hstat (he ▸ hr)) (fun he => hext (he ▸ hr)) slot
    · rfl
  · split <;> rfl

/-- No read depends on the general registers. -/
@[simp] theorem peek_setR8 (s : State) (r : R8) (v : Byte) (addr : Word) : (s.setR8 r v).peek addr = s.peek addr := by
  apply peek_congr <;> simp

/-- A read leaves HL. -/
theorem hl_of_sameButDraws {s t : State} (h : SameButDraws s t) : t.hl = s.hl := by
  rw [h]; rfl

/-- A write leaves HL. -/
theorem hl_of_sameButStorage {s t : State} (h : SameButStorage s t) : t.hl = s.hl := by
  rw [h]; rfl

/-! ### The shared operations where their access completes -/

theorem loadByte_of_readByte {s t : State} {addr : Word} {v : Byte} (e : readByte s addr = .ok v t) (r : R8) :
    loadByte r addr s = .next (t.setR8 r v) := by
  unfold loadByte
  rw [e, finish_ok]

theorem storeByte_of_writeByte {s t : State} {addr : Word} {v : Byte} (e : writeByte s addr v = .ok () t) :
    storeByte addr v s = .next t := by
  unfold storeByte
  rw [e, finish_ok]

theorem loadAndStep_of_readByte {s t : State} {v : Byte} (e : readByte s s.hl = .ok v t) (delta : Word) :
    loadAndStep delta s = .next ((t.setR8 .a v).setHL (s.hl + delta)) := by
  unfold loadAndStep
  rw [e, finish_ok, hl_of_sameButDraws (readByte_ok e)]

theorem storeAndStep_of_writeByte {s t : State} (e : writeByte s s.hl s.a = .ok () t) (delta : Word) :
    storeAndStep delta s = .next (t.setHL (s.hl + delta)) := by
  unfold storeAndStep
  rw [e, finish_ok, hl_of_sameButStorage (writeByte_ok e)]

/-! ### What each form runs -/

theorem exec_of_loadsByte {s : State} {i : Instr} {r : R8} {addr : Word} (h : LoadsByte s i r addr) :
    exec i s = loadByte r addr s := by
  cases h with
  | fromHL r => exact exec_ldFromHL r s
  | fromBC => rfl
  | fromDE => rfl
  | fromN16 nn => rfl
  | highN8 n => rfl
  | highC => rfl

theorem exec_of_storesByte {s : State} {i : Instr} {addr : Word} {v : Byte} (h : StoresByte s i addr v) :
    exec i s = storeByte addr v s := by
  cases h with
  | toHL r => exact exec_ldToHL r s
  | immHL n => rfl
  | toBC => rfl
  | toDE => rfl
  | toN16 nn => rfl
  | highN8 n => rfl
  | highC => rfl

/-! ### The obligations -/

/-- Settles O33: every form is one `loadByte`, and after the read only free values can read otherwise. -/
theorem byteLoads : Obligations.ByteLoads := by
  unfold Obligations.ByteLoads
  intro s i r addr hi hr
  obtain ⟨v, t, e⟩ := (readByte_completes s addr).2 hr
  have hsame := readByte_ok e
  refine ⟨v, t, e, hsame, (exec_of_loadsByte hi).trans (loadByte_of_readByte e r), fun other hd => ?_⟩
  rw [peek_setR8, peek_of_sameButDraws hsame hd]

/-- Settles O34: every form is one `storeByte`; its frame is that of the write. -/
theorem byteStores : Obligations.ByteStores := by
  unfold Obligations.ByteStores
  intro s i addr v hi hw
  obtain ⟨t, e⟩ := (writeByte_completes s addr v).2 hw
  exact ⟨t, e, (exec_of_storesByte hi).trans (storeByte_of_writeByte e), writeByte_ok e,
    fun hs _ h => (writeEffect_of_writeByte e).peek_frame hs h⟩

/-- Settles O35: the access at HL, then `setHL`; HL down by one is HL plus -1. -/
theorem hlStepLoadsAndStores : Obligations.HLStepLoadsAndStores := by
  unfold Obligations.HLStepLoadsAndStores
  intro s hl'
  refine ⟨fun hw => ?_, fun hr => ?_⟩
  · obtain ⟨t, e⟩ := (writeByte_completes s s.hl s.a).2 hw
    refine ⟨t, e, writeByte_ok e, ?_, ?_, fun hs _ h => (writeEffect_of_writeByte e).peek_frame hs h⟩
    · rintro rfl
      exact storeAndStep_of_writeByte e 1
    · rintro rfl
      rw [BitVec.sub_eq_add_neg]
      exact storeAndStep_of_writeByte e (-1)
  · obtain ⟨v, t, e⟩ := (readByte_completes s s.hl).2 hr
    refine ⟨v, t, e, readByte_ok e, ?_, ?_⟩
    · rintro rfl
      exact loadAndStep_of_readByte e 1
    · rintro rfl
      rw [BitVec.sub_eq_add_neg]
      exact loadAndStep_of_readByte e (-1)

/-- An instruction that writes one register leaves the value there, and nothing else changed. -/
theorem exec_changes_only_r8 {s : State} {i : Instr} {r : R8} {v : Byte} (e : exec i s = .next (s.setR8 r v)) :
    ∃ t, exec i s = .next t ∧ t.r8 r = v ∧ t = s.setR8 r (t.r8 r) :=
  ⟨s.setR8 r v, e, r8_setR8_same s r v, by rw [r8_setR8_same]⟩

/-- Settles O32: the register forms run `setR8`, the pair forms `setRP`, and LD SP,HL `setSP`. -/
theorem registerLoads : Obligations.RegisterLoads := by
  unfold Obligations.RegisterLoads
  intro s
  exact ⟨fun dst src => exec_changes_only_r8 (exec_ldR dst src s), fun dst n => exec_changes_only_r8 (exec_ldN dst n s),
    fun v => exec_ldRP .bc v s, fun v => exec_ldRP .de v s, fun v => exec_ldRP .hl v s, fun v => exec_ldRP .sp v s, rfl⟩

end Sys2Proof.Machine
end

section
/-! ## The 16-bit loads and the stack -/

namespace Sys2Proof.Machine

open Sys2Proof

/-! ### SP plus a signed byte -/

/-- The sign extension in two cases: a byte from 0x80 on stands for itself less 0x100 (00_scope.md R14). -/
theorem sext16_eq (e : Byte) :
    sext16 e = if e.toNat < 0x80 then BitVec.ofNat 16 e.toNat else BitVec.ofNat 16 (e.toNat + 0xFF00) := by
  unfold sext16
  split
  · next h =>
    rw [BitVec.signExtend_eq_setWidth_of_msb_false (by simpa [BitVec.msb_eq_decide] using h), BitVec.ofNat_toNat]
  · next h =>
    apply BitVec.eq_of_toNat_eq
    rw [BitVec.toNat_signExtend, BitVec.msb_eq_decide, decide_eq_true (Nat.le_of_not_lt h), if_pos rfl,
      BitVec.toNat_setWidth, BitVec.toNat_ofNat]
    omega

/-- The half-carry by masks instead of remainders (44_alu16.md R804). -/
theorem spHalf_eq (sp : Word) (e : Byte) : spHalf sp e = decide ((sp &&& 0xF).toNat + (e &&& 0xF).toNat > 0xF) := by
  have hsp : (sp &&& 0xF).toNat = sp.toNat % 16 := Nat.and_two_pow_sub_one_eq_mod sp.toNat 4
  have he : (e &&& 0xF).toNat = e.toNat % 16 := Nat.and_two_pow_sub_one_eq_mod e.toNat 4
  rw [hsp, he]
  rfl

/-- The carry by a mask instead of a remainder (44_alu16.md R804). -/
theorem spCarry_eq (sp : Word) (e : Byte) : spCarry sp e = decide ((sp &&& 0xFF).toNat + e.toNat > 0xFF) := by
  have hsp : (sp &&& 0xFF).toNat = sp.toNat % 256 := Nat.and_two_pow_sub_one_eq_mod sp.toNat 8
  rw [hsp]
  rfl

/-- Settles O36: both forms run the same sum and flags, by `sext16_eq`, `spHalf_eq` and `spCarry_eq`. -/
theorem stackPointerPlusSignedByte : Obligations.StackPointerPlusSignedByte := by
  unfold Obligations.StackPointerPlusSignedByte
  rintro s e sum half carry rfl rfl rfl
  rw [← sext16_eq, ← spHalf_eq, ← spCarry_eq]
  exact ⟨rfl, rfl, rfl, rfl⟩

/-! ### Words written and pushed -/

/-- Which bytes a write names does not change under storage. -/
theorem touches_of_sameButStorage {s t : State} (h : SameButStorage s t) (addr other : Word) :
    t.touches addr other = s.touches addr other := by
  rw [h]; rfl

/-- An address that neither byte of a word write touches reads as before. -/
theorem peek_of_writeWord {s t : State} {addr v other : Word} (e : writeWord s addr v = .ok () t)
    (hs : s.slots = resetSlots) (h : s.wordTouches addr other = false) : t.peek other = s.peek other := by
  obtain ⟨s1, hlo, hhi, -⟩ := writeWord_ok e
  obtain ⟨h1, h2⟩ := Bool.or_eq_false_iff.1 h
  have hsame := writeByte_ok hlo
  have hs1 : s1.slots = resetSlots := by rw [hsame]; exact hs
  rw [← touches_of_sameButStorage hsame] at h2
  exact ((writeEffect_of_writeByte hhi).peek_frame hs1 h2).trans ((writeEffect_of_writeByte hlo).peek_frame hs h1)

/-- Settles O37: the instruction is one word write, whose frame is that of its two bytes. -/
theorem stackPointerStore : Obligations.StackPointerStore := by
  unfold Obligations.StackPointerStore
  intro s nn hlo hhi
  obtain ⟨t, e⟩ := (writeWord_completes s nn s.sp).2 ⟨hlo, hhi⟩
  obtain ⟨-, -, -, hsame⟩ := writeWord_ok e
  have hexec : storeSP nn s = .next t := by
    unfold storeSP
    rw [e, finish_ok]
  exact ⟨t, e, hexec, hsame, fun hs _ h => peek_of_writeWord e hs h⟩

/-- No read depends on SP. -/
@[simp] theorem peek_setSP (s : State) (v addr : Word) : (s.setSP v).peek addr = s.peek addr := by
  apply peek_congr <;> rfl

/-- An address that a push does not touch reads as before. -/
theorem peek_of_push16 {s t : State} {v other : Word} (e : push16 s v = .ok () t) (hs : s.slots = resetSlots)
    (h : s.wordTouches (s.sp - 2) other = false) : t.peek other = s.peek other :=
  (peek_of_writeWord (push16_ok e).1 hs h).trans (peek_setSP ..)

theorem callTo_of_push16 {s t : State} (e : push16 s s.pc = .ok () t) (addr : Word) :
    callTo addr s = .next (t.setPC addr) := by
  unfold callTo
  rw [e, finish_ok]

/-- Every form pushes its word and goes to its target; PUSH stays where it is. -/
theorem exec_of_pushes {s t : State} {i : Instr} {v next : Word} (h : Pushes s i v next) (e : push16 s v = .ok () t) :
    exec i s = .next (t.setPC next) := by
  cases h with
  | pair p =>
    have hpc : t.setPC s.pc = t := by rw [(push16_ok e).2]; rfl
    rw [exec_push, hpc]
    unfold pushPair
    rw [e, finish_ok]
  | call => exact callTo_of_push16 e next
  | callCond cc nn hc =>
    rw [exec_callCond]
    exact (if_pos ((cond_iff cc s).2 hc)).trans (callTo_of_push16 e next)
  | rst n => exact (exec_rst n s).trans (callTo_of_push16 e _)

/-- Settles O38: every form is one `push16`; the second byte lies at SP - 2 + 1. -/
theorem pushesAndCalls : Obligations.PushesAndCalls := by
  unfold Obligations.PushesAndCalls
  intro s i v next hi hlo hhi
  have hsp : s.sp - 1 = s.sp - 2 + 1 := by bv_omega
  obtain ⟨t, e⟩ := (push16_completes s v).2 ⟨hlo, hsp ▸ hhi⟩
  obtain ⟨hwrite, hsame⟩ := push16_ok e
  exact ⟨t, hwrite, hsame, exec_of_pushes hi e, fun hs _ h => peek_of_push16 e hs h⟩

/-! ### Words popped -/

/-- POP where its read completes: the word goes to the pair, and SP up by 2 (42_load16.md R606, R607). -/
theorem exec_pop_of_readWord {s t : State} {v : Word} (e : readWord s s.sp = .ok v t) (p : RP2) :
    exec (.pop p) s = .next ((t.setSP (s.sp + 2)).setRP2 p v) := by
  obtain ⟨-, -, -, -, -, -, hsame⟩ := readWord_ok e
  have hsp : t.sp = s.sp := by rw [hsame]
  rw [exec_pop]
  unfold popPair pop16
  rw [e, andThen_ok, finish_ok, hsp]

/-- AF written takes the flags from bits 7..4 of the word (10_state.md R101). -/
theorem setAF_eq (s : State) (v : Word) :
    s.setAF v = { s with a := v.extractLsb' 8 8, fZ := v.getLsbD 7, fN := v.getLsbD 6, fH := v.getLsbD 5,
                         fC := v.getLsbD 4 } := by
  simp [State.setAF, State.setF, hiByte, loByte]

/-- Settles O39: the word read at SP goes to the pair, and after the read only free values can read otherwise. -/
theorem pops : Obligations.Pops := by
  unfold Obligations.Pops
  intro s hlo hhi
  obtain ⟨v, t, e⟩ := (readWord_completes s s.sp).2 ⟨hlo, hhi⟩
  obtain ⟨-, -, -, -, -, -, hsame⟩ := readWord_ok e
  have hpop := exec_pop_of_readWord e
  exact ⟨v, t, e, hsame, hpop .bc, hpop .de, hpop .hl, (hpop .af).trans (congrArg _ (setAF_eq _ v)),
    fun _ hd => peek_of_sameButDraws hsame hd⟩

end Sys2Proof.Machine
end

section
/-! ## 8-bit arithmetic and logic -/

namespace Sys2Proof.Machine

open Sys2Proof

/-! ### Results and flags -/

/-- The low nibble by a mask instead of a remainder. -/
theorem toNat_and_0xF (b : Byte) : (b &&& 0xF).toNat = b.toNat % 16 := Nat.and_two_pow_sub_one_eq_mod b.toNat 4

/-- Bytes are equal where their numbers are. -/
theorem beq_eq_decide_toNat (b k : Byte) : (b == k) = decide (b.toNat = k.toNat) := by
  rw [beq_eq_decide]
  exact decide_eq_decide.2 BitVec.toNat_inj.symm

/-- The difference as a byte is the exact difference, narrowed (43_alu8.md R702). -/
theorem ofInt_toNat_sub (a x : Byte) (cin : Nat) :
    BitVec.ofInt 8 ((a.toNat : Int) - x.toNat - cin) = a - x - BitVec.ofNat 8 cin := by
  apply BitVec.eq_of_toNat_eq
  simp only [BitVec.toNat_ofInt, BitVec.toNat_sub, BitVec.toNat_ofNat]
  omega

/-- A narrowed integer is 0 where 256 divides it. -/
theorem ofInt_eq_zero_iff (z : Int) : BitVec.ofInt 8 z = 0 ↔ z % 256 = 0 := by
  rw [← BitVec.toNat_inj, BitVec.toNat_ofInt]
  change (z % 256).toNat = 0 ↔ _
  omega

/-- A narrowed number is 0 where 256 divides it. -/
theorem ofNat_eq_zero_iff (n : Nat) : BitVec.ofNat 8 n = 0 ↔ n % 256 = 0 := by
  rw [← BitVec.toNat_inj, BitVec.toNat_ofNat]
  rfl

/-- `Add8` by its exact sum (43_alu8.md R701). -/
theorem add8_eq (a x : Byte) (cin : Bool) : add8 a x cin =
    { val := BitVec.ofNat 8 (a.toNat + x.toNat + cin.toNat)
      z := decide ((a.toNat + x.toNat + cin.toNat) % 256 = 0)
      n := false
      h := decide ((a &&& 0xF).toNat + (x &&& 0xF).toNat + cin.toNat > 0xF)
      c := decide (a.toNat + x.toNat + cin.toNat > 0xFF) } := by
  simp only [toNat_and_0xF, ← ofNat_eq_zero_iff]
  rfl

/-- `Sub8` by its exact difference (43_alu8.md R702). -/
theorem sub8_eq (a x : Byte) (cin : Bool) : sub8 a x cin =
    { val := BitVec.ofInt 8 ((a.toNat : Int) - x.toNat - cin.toNat)
      z := decide (((a.toNat : Int) - x.toNat - cin.toNat) % 256 = 0)
      n := true
      h := decide ((a &&& 0xF).toNat < (x &&& 0xF).toNat + cin.toNat)
      c := decide (a.toNat < x.toNat + cin.toNat) } := by
  simp only [toNat_and_0xF, ← ofInt_eq_zero_iff, ofInt_toNat_sub]
  rfl

/-! ### The register and immediate forms -/

theorem exec_of_aluOperand {s : State} {i : Instr} {op : AluOp} {x : Byte} (h : AluOperand s i op x) :
    exec i s = .next (aluEffect op x s) := by
  cases h with
  | reg op r => exact exec_aluR op r s
  | imm op n => exact exec_aluN op x s

/-- Settles O41: both operations run `Add8`, ADC with the carry flag as carry-in. -/
theorem addAndAddWithCarry : Obligations.AddAndAddWithCarry := by
  unfold Obligations.AddAndAddWithCarry
  rintro s i op x cin sum hi hop rfl
  rw [exec_of_aluOperand hi]
  refine congrArg Host.Outcome.next ?_
  obtain ⟨rfl, rfl⟩ | ⟨rfl, rfl⟩ := hop
  · exact congrArg s.intoA (add8_eq s.a x false)
  · exact congrArg s.intoA (add8_eq s.a x s.fC)

/-- Settles O42: the three operations run `Sub8`, SBC with the carry flag as borrow; CP writes the flags alone. -/
theorem subtractAndCompare : Obligations.SubtractAndCompare := by
  unfold Obligations.SubtractAndCompare
  rintro s i op x cin diff hi hop rfl
  rw [exec_of_aluOperand hi]
  refine congrArg Host.Outcome.next ?_
  obtain ⟨rfl, rfl⟩ | ⟨rfl, rfl⟩ | ⟨rfl, rfl⟩ := hop
  · exact congrArg s.intoA (sub8_eq s.a x false)
  · exact congrArg s.intoA (sub8_eq s.a x s.fC)
  · exact congrArg s.flagged (sub8_eq s.a x false)

/-- Settles O43: the operation that the field names runs, and only AND sets H. -/
theorem logicalOperations : Obligations.LogicalOperations := by
  unfold Obligations.LogicalOperations
  intro s i op x v hi hop
  rw [exec_of_aluOperand hi]
  obtain ⟨rfl, rfl⟩ | ⟨rfl, rfl⟩ | ⟨rfl, rfl⟩ := hop <;> rfl

/-! ### The (HL) forms -/

/-- An ALU operation writes A and the flags alone (43_alu8.md R700). -/
theorem aluEffect_frame (op : AluOp) (x : Byte) (s : State) :
    aluEffect op x s = { s with
      a := (aluEffect op x s).a, fZ := (aluEffect op x s).fZ, fN := (aluEffect op x s).fN, fH := (aluEffect op x s).fH,
      fC := (aluEffect op x s).fC } := by
  cases op <;> rfl

theorem exec_aluHL_of_readByte {s t : State} {x : Byte} (e : readByte s s.hl = .ok x t) (op : AluOp) :
    exec (.aluHL op) s = .next (aluEffect op x t) := by
  rw [exec_aluHL]
  unfold withHL
  rw [e, finish_ok]

/-- Settles O44: both forms run the one effect on the state the read leaves, and it writes A and the flags alone. -/
theorem aluWithMemoryOperand : Obligations.AluWithMemoryOperand := by
  unfold Obligations.AluWithMemoryOperand
  intro s op hr
  obtain ⟨x, t, e⟩ := (readByte_completes s s.hl).2 hr
  have hsame := readByte_ok e
  refine ⟨x, t, aluEffect op x t, e, hsame, exec_aluN op x t, exec_aluHL_of_readByte e op, ?_⟩
  rw [aluEffect_frame op x t, hsame]
  rfl

/-! ### INC and DEC of a register -/

/-- Flags whose carry is the one before them: only Z, N and H change. -/
theorem flagged_of_carry_eq {s : State} {r : Flagged} (h : r.c = s.fC) :
    s.flagged r = { s with fZ := r.z, fN := r.n, fH := r.h } := by
  unfold State.flagged State.setFlags
  rw [h]

/-- An operation on a register that passes the carry through leaves C (43_alu8.md R727, R729). -/
theorem modifyReg_eq {f : Byte → Bool → Flagged} (hf : ∀ o carry, (f o carry).c = carry) (r : R8) (s : State) :
    modifyReg f r s = .next { s.setR8 r (f (s.r8 r) s.fC).val with
      fZ := (f (s.r8 r) s.fC).z, fN := (f (s.r8 r) s.fC).n, fH := (f (s.r8 r) s.fC).h } := by
  unfold modifyReg
  rw [flagged_of_carry_eq (by rw [hf, setR8_fC])]

/-- INC gives 0 for 0xFF alone. -/
theorem add_one_beq_zero (o : Byte) : (o + 1 == 0) = decide (o.toNat = 0xFF) := by
  rw [beq_eq_decide]
  exact decide_eq_decide.2 (by bv_omega)

/-- DEC gives 0 for 1 alone. -/
theorem sub_one_beq_zero (o : Byte) : (o - 1 == 0) = decide (o.toNat = 1) := by
  rw [beq_eq_decide]
  exact decide_eq_decide.2 (by bv_omega)

/-- Settles O45: both pass the carry through. -/
theorem incrementAndDecrementRegister : Obligations.IncrementAndDecrementRegister := by
  unfold Obligations.IncrementAndDecrementRegister
  intro s r
  rw [← add_one_beq_zero, ← sub_one_beq_zero, exec_incR, exec_decR]
  exact ⟨modifyReg_eq (fun _ _ => rfl) r s, modifyReg_eq (fun _ _ => rfl) r s⟩

/-! ### DAA, CPL, SCF and CCF -/

/-- A byte plus a correction where the condition holds, by numbers. -/
theorem toNat_ite_add (p : Prop) [Decidable p] (v k : Byte) :
    (if p then v + k else v).toNat = if p then (v.toNat + k.toNat) % 256 else v.toNat := by
  split
  · exact BitVec.toNat_add v k
  · rfl

/-- DAA by numbers: the low nibble's correction gives `a1`, the high nibble's `a2` with the carry `c2`
(43_alu8.md R731). -/
theorem daa8_eq {a : Byte} {n h c c2 : Bool} {a1 a2 : Nat}
    (h1 : a1 = if (a &&& 0xF).toNat > 9 ∨ h = true then (a.toNat + 0x06) % 256 else a.toNat)
    (hc : c2 = (decide (a1 / 16 > 9) || c)) (h2 : a2 = if c2 = true then (a1 + 0x60) % 256 else a1) :
    daa8 a n h c = { val := BitVec.ofNat 8 a2, z := decide (a2 = 0), n := n, h := false, c := c2 } := by
  unfold daa8
  dsimp only
  generalize hl : (if a.toNat % 16 > 9 || h then a + 0x06 else a) = low
  have hlow : low.toNat = a1 := by
    rw [← hl, toNat_ite_add, h1, toNat_and_0xF]
    simp
  have hhigh : (if c2 then low + 0x60 else low).toNat = a2 := by
    rw [toNat_ite_add, h2, hlow]
    rfl
  rw [hlow, ← hc, ← hhigh, beq_eq_decide_toNat, BitVec.ofNat_toNat, BitVec.setWidth_eq]
  rfl

/-- Settles O47: DAA by its two corrections; the other three write A and the flags as they stand. -/
theorem daaAndFlagOperations : Obligations.DaaAndFlagOperations := by
  unfold Obligations.DaaAndFlagOperations
  intro s a1 a2 c2 h1 hc h2
  have hdaa := congrArg s.intoA (daa8_eq (n := s.fN) h1 hc h2)
  have hcpl : complementA s = .next { s with a := ~~~s.a, fN := true, fH := true } := by
    unfold complementA
    rw [show s.a ^^^ 0xFF = ~~~s.a from BitVec.xor_allOnes]
  exact ⟨rfl, rfl, rfl, rfl, congrArg Host.Outcome.next hdaa, hcpl, rfl, rfl⟩

/-! ### Read, modify and write at HL -/

/-- The model's rotates and shifts are the spec's, bit by bit (45_rotate_shift_bit.md R905..R919). -/
theorem shifted_val (op : RotOp) (v : Byte) (carry : Bool) : (shifted op v carry).val = rotated op v carry := by
  refine BitVec.eq_of_getLsbD_eq fun i hi => ?_
  unfold shifted rotated
  cases op
  all_goals
    dsimp only
    rw [BitVec.getLsbD_append]
    interval_cases i <;> simp [rlc8, rrc8, rl8, rr8, sla8, sra8, swap8, srl8]

theorem shifted_out (op : RotOp) (v : Byte) (carry : Bool) : (shifted op v carry).out = shiftedOut op v := by
  cases op <;> rfl

/-- INC with the half-carry by a remainder instead of a mask (43_alu8.md R727). -/
theorem inc8_eq (o : Byte) (carry : Bool) : inc8 o carry =
    { val := o + 1, z := o + 1 == 0, n := true, h := decide (o.toNat % 16 = 15), c := carry } := by
  have hh : (o &&& 0xF == 0xF) = decide (o.toNat % 16 = 15) := by
    rw [← toNat_and_0xF]
    exact beq_eq_decide_toNat _ _
  unfold inc8
  rw [hh]

/-- DEC with the half-carry by a remainder instead of a mask (43_alu8.md R729). -/
theorem dec8_eq (o : Byte) (carry : Bool) : dec8 o carry =
    { val := o - 1, z := o - 1 == 0, n := true, h := decide (o.toNat % 16 = 0), c := carry } := by
  have hh : (o &&& 0xF == 0x0) = decide (o.toNat % 16 = 0) := by
    rw [← toNat_and_0xF]
    exact beq_eq_decide_toNat _ _
  unfold dec8
  rw [hh]

theorem modifyHL_of_accesses {s t u : State} {f : Byte → Bool → Flagged} {v : Byte} (hr : readByte s s.hl = .ok v t)
    (hw : writeByte t s.hl (f v s.fC).val = .ok () u) : modifyHL f s = .next (u.flagged (f v u.fC)) := by
  have ht := readByte_ok hr
  unfold modifyHL
  rw [hr, finish_ok, hl_of_sameButDraws ht, show t.fC = s.fC by rw [ht], hw, finish_ok]

theorem changeHL_of_accesses {s t u : State} {f : Byte → Byte} {v : Byte} (hr : readByte s s.hl = .ok v t)
    (hw : writeByte t s.hl (f v) = .ok () u) : changeHL f s = .next u := by
  unfold changeHL
  rw [hr, finish_ok, hl_of_sameButDraws (readByte_ok hr), hw, finish_ok]

theorem shiftHL_of_accesses {s t u : State} {op : RotOp} {v : Byte} (hr : readByte s s.hl = .ok v t)
    (hw : writeByte t s.hl (shifted op v s.fC).val = .ok () u) :
    shiftHL op s = .next (u.shiftFlags (shifted op v s.fC)) := by
  have ht := readByte_ok hr
  unfold shiftHL
  rw [hr, finish_ok, hl_of_sameButDraws ht, show t.fC = s.fC by rw [ht], hw, finish_ok]

/-- Every form runs its read, its write and its flags. -/
theorem exec_of_modifiesHL {s t u : State} {i : Instr} {f : Byte → Byte} {g : Byte → State → State} {v : Byte}
    (h : ModifiesHL s i f g) (hr : readByte s s.hl = .ok v t) (hw : writeByte t s.hl (f v) = .ok () u) :
    exec i s = .next (g v u) := by
  cases h with
  | inc =>
    exact (modifyHL_of_accesses (f := inc8) hr hw).trans (congrArg (Host.Outcome.next <| u.flagged ·) (inc8_eq v u.fC))
  | dec =>
    exact (modifyHL_of_accesses (f := dec8) hr hw).trans (congrArg (Host.Outcome.next <| u.flagged ·) (dec8_eq v u.fC))
  | rot op =>
    rw [exec_rotHL, shiftHL_of_accesses hr (by rw [shifted_val]; exact hw)]
    unfold State.shiftFlags
    rw [shifted_val, shifted_out]
    rfl
  | res b => exact (exec_resHL b s).trans (changeHL_of_accesses hr hw)
  | set b => exact (exec_setHL b s).trans (changeHL_of_accesses hr hw)

/-- The flags that a form leaves change no read. -/
theorem peek_of_modifiesHL {s : State} {i : Instr} {f : Byte → Byte} {g : Byte → State → State} (h : ModifiesHL s i f g)
    (v : Byte) (u : State) (addr : Word) : (g v u).peek addr = u.peek addr := by
  cases h <;> apply peek_congr <;> rfl

/-- Settles O46: the read changes at most the draw counter, and the frame is that of the write (`WriteEffect`). -/
theorem readModifyWriteAtHL : Obligations.ReadModifyWriteAtHL := by
  unfold Obligations.ReadModifyWriteAtHL
  intro s i f g hi hr hw
  obtain ⟨v, t, er⟩ := (readByte_completes s s.hl).2 hr
  have ht := readByte_ok er
  obtain ⟨u, ew⟩ := (writeByte_completes t s.hl (f v)).2 ((writable_of_sameButDraws ht s.hl).trans hw)
  refine ⟨v, t, u, er, ht, ew, writeByte_ok ew, exec_of_modifiesHL hi er ew, fun hs other htouch hdraw => ?_⟩
  have hslots : t.slots = resetSlots := by rw [ht]; exact hs
  have htouch' : t.touches s.hl other = false := by rw [ht]; exact htouch
  rw [peek_of_modifiesHL hi, (writeEffect_of_writeByte ew).peek_frame hslots htouch', peek_of_sameButDraws ht hdraw]

end Sys2Proof.Machine
end

section
/-! ## 16-bit arithmetic -/

namespace Sys2Proof.Machine

open Sys2Proof

/-- The low twelve bits by a mask instead of a remainder. -/
theorem toNat_and_0x0FFF (v : Word) : (v &&& 0x0FFF).toNat = v.toNat % 0x1000 :=
  Nat.and_two_pow_sub_one_eq_mod v.toNat 12

/-- The half-carry by masks instead of remainders (44_alu16.md R801). -/
theorem addHalf16_eq (x y : Word) :
    addHalf16 x y = decide ((x &&& 0x0FFF).toNat + (y &&& 0x0FFF).toNat > 0x0FFF) := by
  unfold addHalf16
  rw [toNat_and_0x0FFF, toNat_and_0x0FFF]

/-- INC rr and DEC rr write the pair alone (44_alu16.md R802, R803). -/
theorem stepPair_spec (p : RP) (delta : Word) (s : State) :
    ∃ t, stepPair p delta s = .next t ∧ t.rp p = s.rp p + delta ∧ t = s.setRP p (t.rp p) :=
  ⟨s.setRP p (s.rp p + delta), rfl, rp_setRP_same .., by rw [rp_setRP_same]⟩

/-- Settles O48: ADD HL runs `addToHL`, which narrows the exact sum and leaves Z; INC and DEC are `stepPair` by 1 and by -1. -/
theorem sixteenBitArithmetic : Obligations.SixteenBitArithmetic := by
  unfold Obligations.SixteenBitArithmetic
  rintro s p sum w rfl rfl
  rw [exec_addHL, ← addHalf16_eq, exec_incRP, exec_decRP, BitVec.sub_eq_add_neg]
  exact ⟨encode_addHL p, encode_incRP p, encode_decRP p, rfl, stepPair_spec p 1 s, stepPair_spec p (-1) s⟩

end Sys2Proof.Machine
end

section
/-! ## Rotates, shifts and bits -/

namespace Sys2Proof.Machine

open Sys2Proof

/-! ### The accumulator rotates -/

/-- RLC is the library's rotation: the bit it brings in is what the rotation shifts round (45_rotate_shift_bit.md R901). -/
theorem rlc8_val (v : Byte) : (rlc8 v).val = v.rotateLeft 1 := by
  have hbit : (BitVec.ofBool (v.getLsbD 7)).setWidth 8 = v >>> 7 := by
    refine BitVec.eq_of_getLsbD_eq fun i hi => ?_
    interval_cases i <;> simp
  unfold rlc8
  rw [hbit, BitVec.rotateLeft_def]

/-- RRC is the library's rotation in the other direction (45_rotate_shift_bit.md R902). -/
theorem rrc8_val (v : Byte) : (rrc8 v).val = v.rotateRight 1 := by
  have hbit : (BitVec.ofBool (v.getLsbD 0)).setWidth 8 <<< 7 = v <<< 7 := by
    refine BitVec.eq_of_getLsbD_eq fun i hi => ?_
    interval_cases i <;> simp
  unfold rrc8
  rw [hbit, BitVec.rotateRight_def]

/-- Settles O49: `rotateA` writes the rotated byte with Z = 0; RLCA and RRCA are the library's rotations of it, RLA and RRA
the CB ones. -/
theorem accumulatorRotates : Obligations.AccumulatorRotates := by
  unfold Obligations.AccumulatorRotates
  intro s
  rw [← rlc8_val, ← rrc8_val, ← shifted_val, ← shifted_val]
  exact ⟨rfl, rfl, rfl, rfl, rfl, rfl, rfl, rfl⟩

/-! ### The CB rotates and shifts of a register -/

/-- Settles O50: `shiftReg` writes the result and its flags, and both are the spec's, bit by bit. -/
theorem registerRotatesAndShifts : Obligations.RegisterRotatesAndShifts := by
  unfold Obligations.RegisterRotatesAndShifts
  intro s op r
  rw [exec_rotR, ← beq_eq_decide, ← shifted_val, ← shifted_out op (s.r8 r) s.fC]
  rfl

/-! ### BIT, RES and SET -/

/-- The mask of bit `n` has that bit alone. -/
theorem getLsbD_bitMask {j : Nat} (hj : j < 8) (n : Nat) : (bitMask n).getLsbD j = decide (j = n) := by
  refine (BitVec.getLsbD_twoPow n j).trans ?_
  rw [← Bool.decide_and]
  exact decide_eq_decide.2 (by omega)

/-- RES clears that bit alone (45_rotate_shift_bit.md R923). -/
theorem getLsbD_and_not_bitMask (v : Byte) {j : Nat} (hj : j < 8) (n : Nat) :
    (v &&& ~~~bitMask n).getLsbD j = (v.getLsbD j && decide (j ≠ n)) := by
  rw [BitVec.getLsbD_and, BitVec.getLsbD_not, getLsbD_bitMask hj, decide_eq_true hj, Bool.true_and, decide_not]

/-- SET sets that bit alone (45_rotate_shift_bit.md R925). -/
theorem getLsbD_or_bitMask (v : Byte) {j : Nat} (hj : j < 8) (n : Nat) :
    (v ||| bitMask n).getLsbD j = (v.getLsbD j || decide (j = n)) := by
  rw [BitVec.getLsbD_or, getLsbD_bitMask hj]

theorem testBitHL_of_readByte {s t : State} {v : Byte} (e : readByte s s.hl = .ok v t) (n : Nat) :
    testBitHL n s = .next (t.bitFlags n v) := by
  unfold testBitHL
  rw [e, finish_ok]

/-- Settles O51: BIT only reads and writes its flags; RES and SET write the register by the mask of the bit. -/
theorem bitResSet : Obligations.BitResSet := by
  unfold Obligations.BitResSet
  intro s b
  refine ⟨fun r => exec_bitR b r s, fun hr => ?_, fun r => ?_, fun r => ?_⟩
  · obtain ⟨v, t, e⟩ := (readByte_completes s s.hl).2 hr
    exact ⟨v, t, e, readByte_ok e, (exec_bitHL b s).trans (testBitHL_of_readByte e b.toNat)⟩
  · obtain ⟨t, e, hv, ht⟩ := exec_changes_only_r8 (exec_resR b r s)
    exact ⟨t, e, ht, fun j hj => hv ▸ getLsbD_and_not_bitMask _ hj _⟩
  · obtain ⟨t, e, hv, ht⟩ := exec_changes_only_r8 (exec_setR b r s)
    exact ⟨t, e, ht, fun j hj => hv ▸ getLsbD_or_bitMask _ hj _⟩

end Sys2Proof.Machine
end

section
/-! ## Jumps, untaken calls and returns -/

namespace Sys2Proof.Machine

open Sys2Proof

/-! ### Conditions -/

/-- A conditional transfer whose condition holds is the transfer (46_control.md R1002, R1005, R1007, R1011). -/
theorem ite_cond_of_condHolds {cc : Cond} {s : State} (hc : condHolds cc s) (taken untaken : Result) :
    (if s.cond cc then taken else untaken) = taken :=
  if_pos ((cond_iff cc s).2 hc)

/-- A conditional transfer whose condition fails is not taken. -/
theorem ite_cond_of_not_condHolds {cc : Cond} {s : State} (hc : ¬ condHolds cc s) (taken untaken : Result) :
    (if s.cond cc then taken else untaken) = untaken :=
  if_neg fun h => hc ((cond_iff cc s).1 h)

/-! ### Jumps -/

/-- Settles O52: the unconditional forms set pc alone, by `sext16_eq` for the relative one; a conditional form is its
unconditional one or nothing, as its condition says. -/
theorem jumpsAndUntakenCalls : Obligations.JumpsAndUntakenCalls := by
  unfold Obligations.JumpsAndUntakenCalls
  rintro s nn e cc target rfl
  rw [← sext16_eq, exec_jpCond, exec_jrCond, exec_callCond]
  exact ⟨rfl, rfl, rfl,
    fun hc => ⟨ite_cond_of_condHolds hc _ _, ite_cond_of_condHolds hc _ _⟩,
    fun hc => ⟨ite_cond_of_not_condHolds hc _ _, ite_cond_of_not_condHolds hc _ _, ite_cond_of_not_condHolds hc _ _⟩⟩

/-! ### Returns -/

theorem pop16_of_readWord {s t : State} {v : Word} (e : readWord s s.sp = .ok v t) :
    pop16 s = .ok v (t.setSP (s.sp + 2)) := by
  obtain ⟨-, -, -, -, -, -, hsame⟩ := readWord_ok e
  have hsp : t.sp = s.sp := by rw [hsame]
  unfold pop16
  rw [e, andThen_ok, hsp]

theorem returnTo_of_pop16 {s t : State} {v : Word} (e : pop16 s = .ok v t) : returnTo s = .next (t.setPC v) := by
  unfold returnTo
  rw [e, finish_ok]

theorem returnEnabling_of_pop16 {s t : State} {v : Word} (e : pop16 s = .ok v t) :
    returnEnabling s = .next { t with pc := v, ime := true } := by
  unfold returnEnabling returnFromInterrupt
  rw [e, andThen_ok, finish_ok]

/-- Settles O40: every taken form pops the same word into pc, and RETI also sets IME. -/
theorem returns : Obligations.Returns := by
  unfold Obligations.Returns
  refine ⟨fun s hlo hhi => ?_, fun s cc hc => (exec_retCond cc s).trans (ite_cond_of_not_condHolds hc _ _)⟩
  obtain ⟨v, t, e⟩ := (readWord_completes s s.sp).2 ⟨hlo, hhi⟩
  obtain ⟨-, -, -, -, -, -, hsame⟩ := readWord_ok e
  have hpop := pop16_of_readWord e
  have hret := returnTo_of_pop16 hpop
  exact ⟨v, t, e, hsame, hret, returnEnabling_of_pop16 hpop,
    fun cc hc => (exec_retCond cc s).trans ((ite_cond_of_condHolds hc _ _).trans hret)⟩

end Sys2Proof.Machine
end

section
/-! ## System instructions -/

namespace Sys2Proof.Machine

open Sys2Proof

/-! ### PREFIX CB -/

/-- After the byte 0xCB the CB table decodes the sub-opcode (30_encoding.md R313). -/
theorem decode_cb (sub : Byte) : decode [0xCB, sub] = .ok (cbInstr sub, []) :=
  decode_of_decodeBase (i := .prefixCb sub) rfl

/-- The meaning of each cell of the CB table is the one that its sub-opcode's fields select (47_system.md R1105). -/
theorem exec_cbInstr (sub : Byte) (s : State) : exec (cbInstr sub) s = cbEffect sub s := by
  obtain ⟨k, hk, rfl⟩ : ∃ k < 256, sub = BitVec.ofNat 8 k := ⟨sub.toNat, sub.isLt, by simp⟩
  interval_cases k <;> rfl

/-! The CB operations complete where HL can be read and written. -/

section
variable {s : State} (hr : s.readable s.hl = true)
include hr

theorem testBitHL_completes (n : Nat) : ∃ t, testBitHL n s = .next t := by
  obtain ⟨v, t, e⟩ := (readByte_completes s s.hl).2 hr
  exact ⟨_, testBitHL_of_readByte e n⟩

variable (hw : s.writable s.hl = true)
include hw

/-- The read leaves HL writable, so the write after it completes whatever is made of the byte. -/
theorem exists_read_write_at_hl (f : Byte → Byte) :
    ∃ v t u, readByte s s.hl = .ok v t ∧ writeByte t s.hl (f v) = .ok () u := by
  obtain ⟨v, t, er⟩ := (readByte_completes s s.hl).2 hr
  have hwt : t.writable s.hl = true := (writable_of_sameButDraws (readByte_ok er) s.hl).trans hw
  obtain ⟨u, ew⟩ := (writeByte_completes t s.hl (f v)).2 hwt
  exact ⟨v, t, u, er, ew⟩

theorem shiftHL_completes (op : RotOp) : ∃ t, shiftHL op s = .next t := by
  obtain ⟨v, t, u, er, ew⟩ := exists_read_write_at_hl hr hw fun v => (shifted op v s.fC).val
  exact ⟨_, shiftHL_of_accesses er ew⟩

theorem changeHL_completes (f : Byte → Byte) : ∃ t, changeHL f s = .next t := by
  obtain ⟨v, t, u, er, ew⟩ := exists_read_write_at_hl hr hw f
  exact ⟨u, changeHL_of_accesses er ew⟩

theorem cbEffect_completes (sub : Byte) : ∃ t, cbEffect sub s = .next t := by
  unfold cbEffect
  simp only
  split
  · exact ⟨_, rfl⟩
  · exact shiftHL_completes hr hw _
  · exact ⟨_, rfl⟩
  · exact testBitHL_completes hr _
  · exact ⟨_, rfl⟩
  · exact changeHL_completes hr hw _
  · exact ⟨_, rfl⟩
  · exact changeHL_completes hr hw _

end

/-- Settles O55: PREFIX CB runs `cbEffect`, which is the decoded instruction's meaning and completes. -/
theorem prefixRunsTheCbInstruction : Obligations.PrefixRunsTheCbInstruction := by
  unfold Obligations.PrefixRunsTheCbInstruction
  intro s sub i hdec hr hw
  rw [decode_cb] at hdec
  cases hdec
  obtain ⟨t, e⟩ := cbEffect_completes hr hw sub
  exact ⟨t, e, (exec_cbInstr sub s).trans e⟩

/-! ### NOP, HALT, DI and EI -/

/-- Settles O53: each is one byte of the base table, and its meaning writes one field of the state or none. -/
theorem nopHaltDiEi : Obligations.NopHaltDiEi := by
  unfold Obligations.NopHaltDiEi
  exact fun _ => ⟨rfl, rfl, rfl, rfl, rfl, rfl, rfl, rfl⟩

/-! ### STOP and the unassigned opcodes -/

theorem stopUnimplemented_of_mem {s : State} {op : Opcode} (h : op ∈ s.params.unimplemented) :
    stopUnimplemented op s = .next (raiseStop (.unimplemented op) s) :=
  if_neg fun hi => implemented_eq_true.1 hi h

theorem stopUnimplemented_of_not_mem {s : State} {op : Opcode} (h : op ∉ s.params.unimplemented) :
    stopUnimplemented op s = .refused (.effectNotGiven op) :=
  if_pos (implemented_eq_true.2 h)

/-- Every unassigned opcode means the stop for its own byte (47_system.md R1106). -/
theorem exec_unassigned (s : State) : ∀ p ∈ Instr.unassigned, exec p.2 s = stopUnimplemented (.base p.1) s := by
  unfold Instr.unassigned
  simp only [List.forall_mem_cons]
  exact ⟨rfl, rfl, rfl, rfl, rfl, rfl, rfl, rfl, rfl, rfl, rfl, nofun⟩

/-- `ImplementedDefault` excludes every unassigned opcode (92_eei_decisions.md D2). -/
theorem unassigned_unimplemented : ∀ p ∈ Instr.unassigned, Opcode.base p.1 ∈ Params.default.unimplemented := by decide

/-- Settles O54: STOP and the unassigned opcodes all run `stopUnimplemented` for their own byte. -/
theorem stopAndUnassignedEndTheRun : Obligations.StopAndUnassignedEndTheRun := by
  unfold Obligations.StopAndUnassignedEndTheRun
  intro s b i h
  obtain ⟨hexec, hdefault⟩ :
      exec i s = stopUnimplemented (.base b) s ∧ Opcode.base b ∈ Params.default.unimplemented := by
    rcases h with ⟨n, rfl, rfl⟩ | h
    · exact ⟨rfl, by decide⟩
    · exact ⟨exec_unassigned s _ h, unassigned_unimplemented _ h⟩
  exact ⟨fun hm => hexec.trans (stopUnimplemented_of_mem hm), fun hm => hexec.trans (stopUnimplemented_of_not_mem hm),
    hdefault⟩

end Sys2Proof.Machine
end

section
/-! ## Interrupts: which source is taken, the dispatch, and what else a CPU step can be -/

namespace Sys2Proof.Machine

open Sys2Proof

/-! ### The sources -/

/-- A source of 4..0 is pending and enabled where its bits of IF and IE are set (60_exceptions.md R1301). -/
theorem getLsbD_pendingEnabled (s : State) {j : Nat} (hj : j ≤ 4) :
    (pendingEnabled s).getLsbD j = (s.ifr &&& s.ie).getLsbD j := by
  have hmask : (0x1F : Byte).getLsbD j = true := by interval_cases j <;> rfl
  unfold pendingEnabled
  rw [BitVec.getLsbD_and, hmask, Bool.and_true]

/-- The lowest set bit wins (60_exceptions.md R1303). -/
theorem lowestPending_eq {p : Byte} {k : Nat} (hk : k ≤ 4) (hset : p.getLsbD k = true)
    (hlow : ∀ j, j < k → p.getLsbD j = false) : lowestPending p = k := by
  unfold lowestPending
  interval_cases k <;> simp only [hset, hlow, Nat.reduceLT, Bool.false_eq_true, reduceIte]

theorem dispatchDue_iff (s : State) : dispatchDue s = true ↔ s.ime = true ∧ s.ifr &&& s.ie &&& 0x1F ≠ 0 := by
  simp [dispatchDue, pendingEnabled]

theorem dispatchDue_of_source {s : State} {k : Nat} (hime : s.ime = true) (hk : k ≤ 4)
    (hset : (s.ifr &&& s.ie).getLsbD k = true) : dispatchDue s = true := by
  refine (dispatchDue_iff s).2 ⟨hime, fun hzero => ?_⟩
  have hbit : (pendingEnabled s).getLsbD k = true := (getLsbD_pendingEnabled s hk).trans hset
  unfold pendingEnabled at hbit
  rw [hzero] at hbit
  simp at hbit

/-! ### The dispatch -/

/-- The dispatch of source `k` where its push completes (60_exceptions.md R1302). -/
theorem cpuStep_of_push16 {s t : State} {k : Nat} (hd : dispatchDue s = true)
    (hk : lowestPending (pendingEnabled s) = k)
    (e : push16 { s with ifr := s.ifr &&& ~~~bitMask k, ime := false } s.pc = .ok () t) :
    cpuStep s = .next ({ t with pc := interruptVector k, halted := false }, .dispatch) := by
  have htake : takeInterrupt s = .ok () { t with pc := interruptVector k, halted := false } := by
    unfold takeInterrupt
    simp only [hk, e, andThen_ok]
  unfold cpuStep
  rw [if_pos hd, htake, finish_ok]

/-- Settles O9: the lowest source is taken; the push is one word write, and no read depends on IME. -/
theorem interruptDispatch : Obligations.InterruptDispatch := by
  unfold Obligations.InterruptDispatch
  intro s k hrun hime hk hset hlow hw hw'
  have hlowest : lowestPending (pendingEnabled s) = k :=
    lowestPending_eq hk ((getLsbD_pendingEnabled s hk).trans hset) fun j hj =>
      (getLsbD_pendingEnabled s (by omega)).trans (hlow j hj)
  have hsp : s.sp - 1 = s.sp - 2 + 1 := by bv_omega
  obtain ⟨t, e⟩ :=
    (push16_completes { s with ifr := s.ifr &&& ~~~bitMask k, ime := false } s.pc).2 ⟨hw, hsp ▸ hw'⟩
  obtain ⟨hwrite, hsame⟩ := push16_ok e
  have hcpu := cpuStep_of_push16 (dispatchDue_of_source hime hk hset) hlowest e
  have ht : t.run = .running := by rw [hsame]; exact hrun
  refine ⟨t, hwrite, hsame, hcpu, step_of_cpuStep_running hrun hcpu ht, fun hs other h => ?_⟩
  refine (peek_of_push16 e hs h).trans ?_
  apply peek_congr <;> rfl

/-! ### The kinds of a CPU step -/

/-- A CPU step is a dispatch where one is due; else a halted CPU idles and an awake one runs an opcode (40_step.md
R401..R403). -/
theorem cpuStep_cases {s t : State} {k : StepKind} (e : cpuStep s = .next (t, k)) :
    dispatchDue s = true ∧ k = .dispatch ∨
      dispatchDue s = false ∧ (s.halted = true ∧ t = s ∧ k = .haltIdle ∨
        s.halted = false ∧ ∃ op taken, k = .instr op taken) := by
  unfold cpuStep at e
  split at e
  · next hd =>
    obtain ⟨⟨⟩, s1, -, e⟩ := finish_eq_next.1 e
    cases e
    exact .inl ⟨hd, rfl⟩
  · next hd =>
    refine .inr ⟨Bool.eq_false_of_not_eq_true hd, ?_⟩
    split at e
    · next hh =>
      cases e
      exact .inl ⟨hh, rfl, rfl⟩
    · next hh =>
      obtain ⟨op, s1, -, e⟩ := finish_eq_next.1 e
      obtain ⟨hk, -⟩ := runOpcode_ok e
      exact .inr ⟨Bool.eq_false_of_not_eq_true hh, op, hk⟩

/-- Settles O10: by the three kinds of a CPU step; an idle step leaves the CPU halted, and an opcode runs only when awake. -/
theorem dispatchExactlyWhenPendingAndEnabled : Obligations.DispatchExactlyWhenPendingAndEnabled := by
  unfold Obligations.DispatchExactlyWhenPendingAndEnabled
  intro s t k e
  rw [← dispatchDue_iff]
  obtain ⟨hd, rfl⟩ | ⟨hd, ⟨hh, rfl, rfl⟩ | ⟨hh, op, taken, rfl⟩⟩ := cpuStep_cases e
  · exact ⟨iff_of_true rfl hd, fun _ _ => rfl⟩
  · exact ⟨iff_of_false nofun (by simp [hd]), fun _ hawake => absurd hh (by simp [hawake])⟩
  · exact ⟨iff_of_false nofun (by simp [hd]), fun hhalted => absurd hhalted (by simp [hh])⟩

end Sys2Proof.Machine
end

section
/-! ## The external agents: what their ticks can change -/

namespace Sys2Proof.Machine

open Sys2Proof

/-- Everything an agent's access or request can do (60_exceptions.md R1320): OAM bytes change, IF gains bits 2, 3 and 4, free
values are drawn. -/
structure AgentEffect (s t : State) : Prop where
  same : t = { s with ram := t.ram, ifr := t.ifr, draws := t.draws }
  oam : ∀ key, key < 0xFE00 ∨ 0xFEA0 ≤ key → t.ram.read key = s.ram.read key
  others : t.ifr &&& 0xE3 = s.ifr &&& 0xE3
  gains : t.ifr ||| s.ifr = t.ifr

theorem AgentEffect.refl (s : State) : AgentEffect s s := ⟨rfl, fun _ _ => rfl, rfl, BitVec.or_self⟩

theorem AgentEffect.trans {s t u : State} (h1 : AgentEffect s t) (h2 : AgentEffect t u) : AgentEffect s u where
  same := by rw [h2.same, h1.same]
  oam key hkey := (h2.oam key hkey).trans (h1.oam key hkey)
  others := h2.others.trans h1.others
  gains :=
    calc u.ifr ||| s.ifr = u.ifr ||| t.ifr ||| s.ifr := by rw [h2.gains]
      _ = u.ifr ||| (t.ifr ||| s.ifr) := BitVec.or_assoc ..
      _ = u.ifr := by rw [h1.gains, h2.gains]

theorem SameButDraws.agentEffect {s t : State} (h : SameButDraws s t) : AgentEffect s t := by
  rw [h]
  exact ⟨rfl, fun _ _ => rfl, rfl, BitVec.or_self⟩

/-- A request of one of the agents' three interrupts sets its bit of IF (60_exceptions.md R1310). -/
theorem requestIf_agentEffect {k : Nat} (hk : k ∈ [2, 3, 4]) (b : Bool) (s : State) : AgentEffect s (requestIf b k s) := by
  cases b with
  | false => exact .refl s
  | true =>
    have hmask : bitMask k &&& 0xE3 = 0 := by revert k; decide
    refine ⟨rfl, fun _ _ => rfl, ?_, ?_⟩
    · show (s.ifr ||| bitMask k) &&& 0xE3 = s.ifr &&& 0xE3
      rw [BitVec.and_or_distrib_right, hmask]
      exact BitVec.or_zero
    · show s.ifr ||| bitMask k ||| s.ifr = s.ifr ||| bitMask k
      rw [BitVec.or_comm, ← BitVec.or_assoc, BitVec.or_self]

/-- The DMA agent's write goes to one byte of OAM (60_exceptions.md R1320). -/
theorem writeOam_agentEffect {s t : State} {i : Fin 160} {v : Byte} (e : writeOam s i v = .ok () t) : AgentEffect s t := by
  have haddr : (BitVec.ofNat 16 (0xFE00 + i.val)).toNat = 0xFE00 + i.val := by
    rw [BitVec.toNat_ofNat]
    omega
  have hstorage : isStorage (BitVec.ofNat 16 (0xFE00 + i.val)).toNat = true := by
    rw [haddr]
    simp [isStorage]
    omega
  unfold writeOam at e
  rw [(access_of_isStorage hstorage s v).2, haddr] at e
  cases e
  exact ⟨rfl, fun key hkey => Memory.read_write_other _ _ (by omega), rfl, BitVec.or_self⟩

theorem dmaStep_agentEffect {op : DmaOp} {s t : State} (e : dmaStep op s = .ok () t) : AgentEffect s t := by
  cases op with
  | read src =>
    obtain ⟨v, s1, h, e⟩ := andThen_eq_ok.1 e
    cases e
    exact (readByte_ok h).agentEffect
  | write i v => exact writeOam_agentEffect e
  | copy src i =>
    obtain ⟨v, s1, h, e⟩ := andThen_eq_ok.1 e
    exact (readByte_ok h).agentEffect.trans (writeOam_agentEffect e)

theorem dmaRun_agentEffect {ops : List DmaOp} {s t : State} (e : dmaRun ops s = .ok () t) : AgentEffect s t := by
  induction ops generalizing s with
  | nil => cases e; exact .refl _
  | cons op rest ih =>
    obtain ⟨⟨⟩, s1, h, e⟩ := andThen_eq_ok.1 e
    exact (dmaStep_agentEffect h).trans (ih e)

theorem keypadTick_agentEffect (a : AgentTicks) (s : State) : AgentEffect s (keypadTick a s) :=
  (requestIf_agentEffect (by decide) _ _).trans (requestIf_agentEffect (by decide) _ _)

theorem dmaTick_agentEffect {a : AgentTicks} {s t : State} (e : dmaTick a s = .ok () t) : AgentEffect s t := by
  obtain ⟨⟨⟩, s1, h, e⟩ := andThen_eq_ok.1 e
  cases e
  exact (dmaRun_agentEffect h).trans (requestIf_agentEffect (by decide) _ _)

theorem timerTick_agentEffect (a : AgentTicks) (s : State) : AgentEffect s (timerTick a s) :=
  (requestIf_agentEffect (by decide) _ _).trans (requestIf_agentEffect (by decide) _ _)

/-- Settles O12: every access and request of the three ticks is an `AgentEffect`; the rest is the model's bookkeeping. -/
theorem agentsChangeOnlyOamAndTheirRequests : Obligations.AgentsChangeOnlyOamAndTheirRequests := by
  unfold Obligations.AgentsChangeOnlyOamAndTheirRequests
  intro s t e
  obtain ⟨⟨⟩, s1, h, e⟩ := andThen_eq_ok.1 e
  cases e
  have effect := ((keypadTick_agentEffect (nextAgentTicks s) s).trans (dmaTick_agentEffect h)).trans
    (timerTick_agentEffect (nextAgentTicks s) s1)
  exact ⟨by rw [effect.same], effect.oam, effect.others, effect.gains⟩

end Sys2Proof.Machine
end

section
/-! ## The cycles of a system step -/

namespace Sys2Proof.Machine

open Sys2Proof

/-! ### The DMG table -/

/-- The one count of a cell of `dmgTable`, 0 where it holds two. -/
def oneCount (cell : Nat × Nat) : Nat := if cell.1 = cell.2 then cell.1 else 0

/-- The cell of a base opcode in `dmgTable` (70_reset_and_hazards.md R1430). -/
def dmgCell (b : Byte) : Nat × Nat := (dmgTable.getD (b.toNat / 16) []).getD (b.toNat % 16) (0, 0)

theorem stepCycles_dmg_base (b : Byte) (taken : Bool) :
    stepCycles .dmg (.instr (.base b) taken) = if taken then (dmgCell b).1 else (dmgCell b).2 := rfl

/-- The table of single counts is the model's table, cell by cell. -/
theorem singleCountRows_eq : singleCountRows = dmgTable.map (List.map oneCount) := by decide

theorem singleCount_eq (b : Byte) : singleCount b = oneCount (dmgCell b) := by
  unfold singleCount dmgCell
  rw [singleCountRows_eq]
  have hrow : (dmgTable.map (List.map oneCount)).getD (b.toNat / 16) [] =
      (dmgTable.getD (b.toNat / 16) []).map oneCount := List.getD_map dmgTable [] (List.map oneCount)
  rw [hrow]
  exact List.getD_map _ (0, 0) oneCount

/-- A cell with one count gives it whether taken or not. -/
theorem dmgCell_of_oneCount {cell : Nat × Nat} (h : oneCount cell ≠ 0) :
    cell.1 = oneCount cell ∧ cell.2 = oneCount cell := by
  unfold oneCount at *
  split at h
  · next heq => rw [if_pos heq]; exact ⟨rfl, heq.symm⟩
  · exact absurd rfl h

/-- The fields of a CB opcode: bits 2..0 name the operand, bits 7..6 the group (30_encoding.md R303, R307). -/
theorem dmgCb_eq (sub : Byte) :
    dmgCb sub = if sub.extractLsb' 0 3 = 6 then (if sub.extractLsb' 6 2 = 1 then 12 else 16) else 8 := by
  have hoperand : sub.extractLsb' 0 3 = 6 ↔ sub.toNat % 8 = 6 := by
    rw [← BitVec.toNat_inj]
    simp
  have hgroup : sub.extractLsb' 6 2 = 1 ↔ sub.toNat / 64 = 1 := by
    rw [← BitVec.toNat_inj]
    simp [Nat.shiftRight_eq_div_pow]
    omega
  unfold dmgCb
  simp only [hoperand, hgroup, ne_eq, ite_not]

/-! ### The taken bit -/

theorem branchTaken_conditional {b : Byte} (hb : b ∈ conditionalOpcodes) (s : State) :
    branchTaken (.base b) s = s.cond (condOfOpcode b) :=
  if_pos (List.contains_iff_mem.2 hb)

theorem branchTaken_unconditional {b : Byte} (hb : b ∈ unconditionalOpcodes) (s : State) :
    branchTaken (.base b) s = true := by
  have hnot : conditionalOpcodes.contains b = false := by
    revert b
    decide
  unfold branchTaken
  simp only [hnot, Bool.false_eq_true, reduceIte]
  exact List.contains_iff_mem.2 hb

/-- A conditional transfer is taken where its condition holds (46_control.md R1000). -/
theorem branchTaken_iff {b : Byte} {cc : Cond} (hb : b ∈ conditionalOpcodes) (hcc : condOfOpcode b = cc) (s : State) :
    branchTaken (.base b) s = true ↔ condHolds cc s := by
  rw [branchTaken_conditional hb, hcc]
  exact cond_iff cc s

/-- Settles O13: the counts from the table's cells, the taken bit from the opcode's condition. -/
theorem cyclesOfAStep : Obligations.CyclesOfAStep := by
  unfold Obligations.CyclesOfAStep
  refine ⟨fun _ => rfl, rfl, rfl, fun sub _ => dmgCb_eq sub, fun b taken hb => ?_,
    fun s b hb => branchTaken_unconditional hb s, fun cc s => ?_⟩
  · rw [singleCount_eq] at hb ⊢
    obtain ⟨htaken, huntaken⟩ := dmgCell_of_oneCount hb
    rw [stepCycles_dmg_base, htaken, huntaken, ite_self]
  · cases cc <;> exact ⟨branchTaken_iff (by decide) (by decide) s, branchTaken_iff (by decide) (by decide) s,
      branchTaken_iff (by decide) (by decide) s, branchTaken_iff (by decide) (by decide) s,
      fun _ => rfl, fun _ => rfl, fun _ => rfl, fun _ => rfl⟩

end Sys2Proof.Machine
end

section
/-! ## The PPU: the scanline state machine -/

namespace Sys2Proof.Machine

open Sys2Proof

/-! ### The four transitions -/

theorem ppuTransition_of_oamSearch {s : State} (h : s.ppu.mode = .oamSearch) :
    ppuTransition s = endOAMSearch (payBudget s) := by
  unfold ppuTransition
  rw [h]

theorem ppuTransition_of_drawing {s : State} (h : s.ppu.mode = .drawing) :
    ppuTransition s = endDrawing (payBudget s) := by
  unfold ppuTransition
  rw [h]

theorem ppuTransition_of_hBlank {s : State} (h : s.ppu.mode = .hBlank) :
    ppuTransition s = endHBlank (payBudget s) := by
  unfold ppuTransition
  rw [h]

theorem ppuTransition_of_vBlank {s : State} (h : s.ppu.mode = .vBlank) :
    ppuTransition s = endVBlankLine (payBudget s) := by
  unfold ppuTransition
  rw [h]

theorem endHBlank_of_last {s : State} (h : s.ppu.line = 143) :
    endHBlank s = { s with ppu := { s.ppu with line := 144, mode := .vBlank }, ifr := s.ifr ||| 1,
                           enteringVblank := true } := by
  unfold endHBlank
  rw [if_pos (by rw [h]), h]
  rfl

theorem endHBlank_of_not_last {s : State} (h : s.ppu.line ≠ 143) :
    endHBlank s = { s with ppu := { s.ppu with line := s.ppu.line + 1, mode := .oamSearch } } :=
  if_neg fun hlast => h (Nat.succ.inj hlast)

/-- Settles O56: the mode chooses the transition, and the line its branch. -/
theorem ppuTransitions : Obligations.PpuTransitions := by
  unfold Obligations.PpuTransitions
  rintro s p rfl
  refine ⟨ppuTransition_of_oamSearch, ppuTransition_of_drawing, fun hm hl => ?_, fun hm hl => ?_, fun hm hl => ?_,
    fun hm hl => ?_⟩
  · exact (ppuTransition_of_hBlank hm).trans (endHBlank_of_not_last hl)
  · exact (ppuTransition_of_hBlank hm).trans (endHBlank_of_last hl)
  · exact (ppuTransition_of_vBlank hm).trans (if_neg hl)
  · exact (ppuTransition_of_vBlank hm).trans (if_pos hl)

/-! ### The loop of a tick -/

theorem ppuLoop_of_counter_lt {s : State} (h : s.ppu.counter < budget s.params s.ppu.mode) (fuel : Nat) :
    ppuLoop fuel s = s := by
  cases fuel with
  | zero => rfl
  | succ n => exact if_pos h

theorem ppuLoop_succ_of_le {s : State} (h : budget s.params s.ppu.mode ≤ s.ppu.counter) (fuel : Nat) :
    ppuLoop (fuel + 1) s = ppuLoop fuel (ppuTransition s) :=
  if_neg (Nat.not_lt_of_le h)

/-- The state at another point of its line: the counter, the mode and the tick's report. -/
def State.scanAt (s : State) (counter : Nat) (mode : PpuMode) : State :=
  { s with ppu := { s.ppu with counter := counter, mode := mode }, enteringVblank := false }

/-- The renderer reads neither the counter, the mode nor the report (48_ppu.md R1220..R1228). -/
theorem lineShades_scanAt (s : State) (counter : Nat) (mode : PpuMode) (ly : Nat) :
    lineShades (s.scanAt counter mode) ly = lineShades s ly := rfl

theorem renderLine_scanAt (s : State) (counter : Nat) (mode : PpuMode) (ly : Nat) :
    renderLine (s.scanAt counter mode) ly = (renderLine s ly).scanAt counter mode := by
  unfold renderLine
  rw [lineShades_scanAt]
  rfl

theorem payBudget_scanAt (s : State) (k : Nat) (mode : PpuMode) :
    payBudget (s.scanAt (budget s.params mode + k) mode) = s.scanAt k mode := by
  simp [payBudget, State.scanAt, State.setPpu]

/-- A counter that holds the budget is one more turn of the loop, which pays it. -/
theorem ppuLoop_scanAt (s : State) (fuel k : Nat) (mode : PpuMode) :
    ppuLoop (fuel + 1) (s.scanAt (budget s.params mode + k) mode) =
      ppuLoop fuel (ppuTransition (s.scanAt (budget s.params mode + k) mode)) :=
  ppuLoop_succ_of_le (Nat.le_add_right _ _) fuel

theorem ppuTransition_scanAt_oamSearch (s : State) (k : Nat) :
    ppuTransition (s.scanAt (budget s.params .oamSearch + k) .oamSearch) = s.scanAt k .drawing := by
  rw [ppuTransition_of_oamSearch rfl, payBudget_scanAt]
  rfl

theorem ppuTransition_scanAt_drawing (s : State) (k : Nat) :
    ppuTransition (s.scanAt (budget s.params .drawing + k) .drawing) = (renderLine s s.ppu.line).scanAt k .hBlank := by
  rw [ppuTransition_of_drawing rfl, payBudget_scanAt]
  unfold endDrawing
  rw [renderLine_scanAt]
  rfl

theorem ppuTransition_scanAt_hBlank (s : State) (k : Nat) :
    ppuTransition (s.scanAt (budget s.params .hBlank + k) .hBlank) = endHBlank (s.scanAt k .hBlank) := by
  rw [ppuTransition_of_hBlank rfl, payBudget_scanAt]

/-- A tick of a whole visible line takes its three transitions and stops at the counter 0 (48_ppu.md R1210). -/
theorem ppuTick_line {s : State} (hb : ∀ m, 0 < budget s.params m) (hm : s.ppu.mode = .oamSearch)
    (hc : s.ppu.counter = 0) :
    ppuTick (s.params.oamCycles + s.params.drawCycles + s.params.hblankCycles) s =
      endHBlank ((renderLine s s.ppu.line).scanAt 0 .hBlank) := by
  have hstop : ∀ fuel, ppuLoop fuel (endHBlank ((renderLine s s.ppu.line).scanAt 0 .hBlank)) =
      endHBlank ((renderLine s s.ppu.line).scanAt 0 .hBlank) := by
    refine ppuLoop_of_counter_lt ?_
    rw [endHBlank_counter, show (endHBlank ((renderLine s s.ppu.line).scanAt 0 .hBlank)).params = s.params by
      rw [endHBlank_same]; rfl]
    exact hb _
  have hcycles : s.params.oamCycles + s.params.drawCycles + s.params.hblankCycles =
      budget s.params .oamSearch + (budget s.params .drawing + (budget s.params .hBlank + 0)) := Nat.add_assoc ..
  have hthree : 3 ≤ s.params.oamCycles + s.params.drawCycles + s.params.hblankCycles :=
    Nat.add_le_add (Nat.add_le_add (hb .oamSearch) (hb .drawing)) (hb .hBlank)
  obtain ⟨fuel, hfuel⟩ := Nat.exists_eq_add_of_le' hthree
  calc ppuTick (s.params.oamCycles + s.params.drawCycles + s.params.hblankCycles) s
      = ppuLoop (fuel + 1 + 1 + 1)
          (s.scanAt (budget s.params .oamSearch + (budget s.params .drawing + (budget s.params .hBlank + 0)))
            .oamSearch) := by
        rw [← hcycles, ← hm, show fuel + 1 + 1 + 1 = _ from hfuel.symm]
        unfold ppuTick
        rw [hc, Nat.zero_add]
        rfl
    _ = ppuLoop (fuel + 1 + 1) (s.scanAt (budget s.params .drawing + (budget s.params .hBlank + 0)) .drawing) := by
        rw [ppuLoop_scanAt, ppuTransition_scanAt_oamSearch]
    _ = ppuLoop (fuel + 1) ((renderLine s s.ppu.line).scanAt (budget s.params .hBlank + 0) .hBlank) := by
        rw [ppuLoop_scanAt, ppuTransition_scanAt_drawing]
    _ = ppuLoop fuel (endHBlank ((renderLine s s.ppu.line).scanAt 0 .hBlank)) :=
        (ppuLoop_scanAt (renderLine s s.ppu.line) fuel 0 .hBlank).trans
          (congrArg _ (ppuTransition_scanAt_hBlank (renderLine s s.ppu.line) 0))
    _ = endHBlank ((renderLine s s.ppu.line).scanAt 0 .hBlank) := hstop fuel

/-- Settles O57: the tick of a line ends its HBlank; the counter of any tick by `ppuTick_counter`. -/
theorem aTickOfALineAdvancesOneLine : Obligations.ATickOfALineAdvancesOneLine := by
  unfold Obligations.ATickOfALineAdvancesOneLine
  refine ⟨fun s hb hm hc => ⟨fun hl => ?_, fun hl => ?_⟩, fun s k hb => ppuTick_counter k hb⟩
  · have hline : ((renderLine s s.ppu.line).scanAt 0 .hBlank).ppu.line ≠ 143 := Nat.ne_of_lt hl
    have hppu : { s.ppu with line := s.ppu.line + 1 } =
        { s.ppu with counter := 0, mode := .oamSearch, line := s.ppu.line + 1 } := by simp only [hm, hc]
    rw [ppuTick_line hb hm hc, endHBlank_of_not_last hline, hppu]
    rfl
  · have hline : ((renderLine s s.ppu.line).scanAt 0 .hBlank).ppu.line = 143 := hl
    have hppu : { s.ppu with line := 144, mode := .vBlank } =
        { s.ppu with counter := 0, line := 144, mode := .vBlank } := by simp only [hc]
    rw [ppuTick_line hb hm hc, endHBlank_of_last hline, hppu, hl]
    rfl

end Sys2Proof.Machine
end

section
/-! ## The PPU: the rendered row, the object scan and the sort -/

namespace Sys2Proof.Machine

open Sys2Proof

/-! ### The bytes of a row -/

/-- Byte `i` of pixel `px` of a row. -/
theorem getElem?_rowBytes (p : Params) (shades : List Shade) (px i : Nat) (hi : i < 4) :
    (shades.flatMap (pixelBytes p))[4 * px + i]? = shades[px]?.bind fun shade => (pixelBytes p shade)[i]? := by
  induction shades generalizing px with
  | nil => rfl
  | cons shade rest ih =>
    rw [List.flatMap_cons]
    cases px with
    | zero =>
      rw [Nat.mul_zero, Nat.zero_add, List.getElem?_append_left (by rw [pixelBytes_length]; exact hi)]
      rfl
    | succ px =>
      rw [List.getElem?_append_right (by rw [pixelBytes_length]; omega), pixelBytes_length,
        show 4 * (px + 1) + i - 4 = 4 * px + i by omega, ih, List.getElem?_cons_succ]

theorem getElem?_lineShades (s : State) (ly : Nat) {px : Nat} (h : px < 160) :
    (lineShades s ly)[px]? = some (composePixel s ly (sortForComposite (oamScan s ly)) px) := by
  unfold lineShades
  rw [List.getElem?_map, List.getElem?_range h]
  rfl

/-- Byte `i` of pixel `px` in the buffer after its line is rendered (48_ppu.md R1228). -/
theorem read_renderLine (s : State) (ly : Nat) {px i : Nat} (hpx : px < 160) (hi : i < 4) :
    some ((renderLine s ly).frame.read (4 * (160 * ly + px) + i)) =
      (pixelBytes s.params (composePixel s ly (sortForComposite (oamScan s ly)) px))[i]? := by
  have hlen := rowBytes_length s.params (lineShades s ly)
  rw [lineShades_length] at hlen
  have hbyte := getElem?_rowBytes s.params (lineShades s ly) px i hi
  rw [getElem?_lineShades s ly hpx, Option.bind_some] at hbyte
  rw [renderLine_frame, Memory.read_writeRow, dif_pos (by omega), ← List.getElem?_eq_getElem, ← hbyte]
  congr 1
  omega

theorem read_renderLine_outside (s : State) (ly : Nat) {other : Nat}
    (h : other < 4 * 160 * ly ∨ 4 * 160 * (ly + 1) ≤ other) :
    (renderLine s ly).frame.read other = s.frame.read other := by
  have hlen := rowBytes_length s.params (lineShades s ly)
  rw [lineShades_length] at hlen
  rw [renderLine_frame, Memory.read_writeRow, dif_neg (by omega)]

/-- Settles O58: the row is written as one block of four bytes a pixel. -/
theorem renderLineWritesOnlyItsRow : Obligations.RenderLineWritesOnlyItsRow := by
  unfold Obligations.RenderLineWritesOnlyItsRow
  refine ⟨fun p => ⟨rfl, rfl, rfl, rfl⟩, ?_⟩
  rintro s ly px other c hpx rfl
  have hread := fun (i : Nat) (hi : i < 4) => read_renderLine s ly hpx hi
  exact ⟨rfl, Option.some.inj (hread 0 (by decide)), Option.some.inj (hread 1 (by decide)),
    Option.some.inj (hread 2 (by decide)), Option.some.inj (hread 3 (by decide)), read_renderLine_outside s ly⟩

/-! ### The object scan -/

/-- An element of an ordered list is within its first `n`, or they are `n` and all come before it. -/
theorem mem_take_or_before {α : Type} {R : α → α → Prop} {l : List α} (hl : l.Pairwise R) (n : Nat) {x : α}
    (hx : x ∈ l) : x ∈ l.take n ∨ (l.take n).length = n ∧ ∀ y ∈ l.take n, R y x := by
  rw [← List.take_append_drop n l] at hl hx
  rcases List.mem_append.1 hx with h | h
  · exact .inl h
  · have hpos := List.length_pos_of_mem h
    rw [List.length_drop] at hpos
    exact .inr ⟨by rw [List.length_take]; omega, fun y hy => (List.pairwise_append.1 hl).2.2 y hy x h⟩

/-- The entries on a line, in ascending index (48_ppu.md R1221). -/
def visibleEntries (s : State) (ly : Nat) : List Obj := ((List.range 40).map (oamEntry s)).filter (onLine s ly)

theorem oamScan_eq (s : State) (ly : Nat) : oamScan s ly = (visibleEntries s ly).take 10 := rfl

theorem onLine_iff (s : State) (ly : Nat) (o : Obj) : onLine s ly o = true ↔
    (o.y : Int) - objYOffset s ≤ ly ∧ (ly : Int) < (o.y : Int) - objYOffset s + objHeight s := by
  unfold onLine Obj.top
  rw [Bool.and_eq_true, decide_eq_true_iff, decide_eq_true_iff]

theorem mem_visibleEntries {s : State} {ly : Nat} {o : Obj} :
    o ∈ visibleEntries s ly ↔ ∃ k, k < 40 ∧ o = oamEntry s k ∧ onLine s ly o = true := by
  simp only [visibleEntries, List.mem_filter, List.mem_map, List.mem_range]
  constructor
  · rintro ⟨⟨k, hk, rfl⟩, h⟩
    exact ⟨k, hk, rfl, h⟩
  · rintro ⟨k, hk, rfl, h⟩
    exact ⟨⟨k, hk, rfl⟩, h⟩

theorem visibleEntries_ascending (s : State) (ly : Nat) :
    (visibleEntries s ly).Pairwise fun o p => o.index < p.index := by
  refine List.Pairwise.filter _ (List.pairwise_map.2 ?_)
  exact List.pairwise_lt_range

theorem oamScan_ascending (s : State) (ly : Nat) : (oamScan s ly).Pairwise fun o p => o.index < p.index :=
  (visibleEntries_ascending s ly).take

/-! ### The sort -/

theorem before_iff {o p : Obj} : o.before p = true ↔ p.x < o.x ∨ o.x = p.x ∧ p.index < o.index := by
  simp [Obj.before]

theorem insertObj_perm (o : Obj) (objs : List Obj) : (insertObj o objs).Perm (o :: objs) := by
  induction objs with
  | nil => exact .refl _
  | cons p rest ih =>
    unfold insertObj
    split
    · exact .refl _
    · exact (ih.cons p).trans (.swap ..)

theorem sortForComposite_perm (objs : List Obj) : (sortForComposite objs).Perm objs := by
  induction objs with
  | nil => exact .refl _
  | cons o rest ih => exact (insertObj_perm _ _).trans (ih.cons o)

/-- An object put in its place among sorted ones of other indices. -/
theorem insertObj_sorted {o : Obj} {objs : List Obj} (hs : objs.Pairwise fun p q => p.before q = true)
    (hne : ∀ p ∈ objs, p.index ≠ o.index) : (insertObj o objs).Pairwise fun p q => p.before q = true := by
  induction objs with
  | nil => exact List.pairwise_singleton _ _
  | cons p rest ih =>
    obtain ⟨hp, hrest⟩ := List.pairwise_cons.1 hs
    obtain ⟨hpo, hne⟩ := List.forall_mem_cons.1 hne
    unfold insertObj
    split
    · next hop =>
      refine List.pairwise_cons.2 ⟨List.forall_mem_cons.2 ⟨hop, fun q hq => ?_⟩, hs⟩
      have hpq := hp q hq
      rw [before_iff] at hop hpq ⊢
      omega
    · next hop =>
      refine List.pairwise_cons.2 ⟨fun q hq => ?_, ih hrest hne⟩
      rcases List.mem_cons.1 ((insertObj_perm o rest).mem_iff.1 hq) with rfl | hq
      · rw [before_iff] at hop ⊢
        omega
      · exact hp q hq

theorem sortForComposite_sorted {objs : List Obj} (h : objs.Pairwise fun o p => o.index ≠ p.index) :
    (sortForComposite objs).Pairwise fun o p => o.before p = true := by
  induction h with
  | nil => exact .nil
  | cons hne _ ih =>
    exact insertObj_sorted ih fun p hp => (hne p ((sortForComposite_perm _).mem_iff.1 hp)).symm

/-- Settles O59: the scan takes the first ten entries on the line in their order, and the sort inserts one after another. -/
theorem objectScanAndSort : Obligations.ObjectScanAndSort := by
  unfold Obligations.ObjectScanAndSort
  refine ⟨fun s k => rfl, fun s => ⟨rfl, rfl⟩, fun s ly => ⟨fun o ho => ?_, oamScan_ascending s ly,
    List.length_take_le _ _, fun k hk htop hbottom => ?_, sortForComposite_perm _, ?_⟩⟩
  · obtain ⟨k, hk, ho, hline⟩ := mem_visibleEntries.1 (List.mem_of_mem_take ho)
    exact ⟨k, hk, ho, (onLine_iff s ly o).1 hline⟩
  · have hline : onLine s ly (oamEntry s k) = true := (onLine_iff s ly _).2 (by omega)
    exact mem_take_or_before (visibleEntries_ascending s ly) 10 (mem_visibleEntries.2 ⟨k, hk, rfl, hline⟩)
  · exact (sortForComposite_sorted ((oamScan_ascending s ly).imp Nat.ne_of_lt)).imp before_iff.1

end Sys2Proof.Machine
end

section
/-! ## The PPU: how a pixel comes from VRAM -/

namespace Sys2Proof.Machine

open Sys2Proof

/-! ### Colour indices and shades -/

/-- The pixel's two bits, the second byte's over the first's (48_ppu.md R1225). -/
theorem toNat_tilePixel (s : State) (addr row col : Nat) : (tilePixel s addr row col).toNat =
    2 * ((s.ram.read (addr + 2 * row + 1)).toNat / 2 ^ (7 - col) % 2) +
      (s.ram.read (addr + 2 * row)).toNat / 2 ^ (7 - col) % 2 := by
  have hbits : ∀ hi lo : Bool, (BitVec.ofBool hi ++ BitVec.ofBool lo).toNat = 2 * hi.toNat + lo.toNat := by decide
  have hbit : ∀ (v : Byte) (n : Nat), (v.getLsbD n).toNat = v.toNat / 2 ^ n % 2 :=
    fun v n => Nat.toNat_testBit v.toNat n
  unfold tilePixel vramByte
  rw [hbits, hbit, hbit]

theorem bgPalette_shade_eq (p : BgPalette) (c : BitVec 2) : p.shade c = [p.c0, p.c1, p.c2, p.c3].getD c.toNat 0 := by
  have hc : c = 0 ∨ c = 1 ∨ c = 2 ∨ c = 3 := by revert c; decide
  rcases hc with rfl | rfl | rfl | rfl <;> rfl

/-! ### The background -/

/-- Signed addressing counts the tiles from 0x80 on down from 0x9000 (48_ppu.md R1224). -/
theorem bgTileAddr_eq (select : Bool) (idx : Byte) :
    bgTileAddr select idx = if select = true then 0x8000 + 16 * idx.toNat
      else if idx.toNat < 0x80 then 0x9000 + 16 * idx.toNat else 0x8000 + 16 * idx.toNat := by
  have hlt := idx.isLt
  unfold bgTileAddr
  rw [BitVec.toInt_eq_toNat_cond]
  split_ifs <;> omega

/-! ### An object -/

/-- An object's footprint is eight columns from X - 8 on (48_ppu.md R1226). -/
theorem objPixel_outside {o : Obj} {px : Nat} (h : px + 8 < o.x ∨ o.x ≤ px) (s : State) (ly : Nat) :
    objPixel s o ly px = none :=
  if_neg (by omega)

/-- The tile's index with bit 0 cleared or set is an even one or the one after it (48_ppu.md R1226). -/
theorem toNat_evenTile (t : Byte) : (t &&& 0xFE).toNat = 2 * (t.toNat / 2) := by revert t; decide
theorem toNat_oddTile (t : Byte) : (t ||| 0x01).toNat = 2 * (t.toNat / 2) + 1 := by revert t; decide

/-- The tile of an object at a row of it: at height 16 the index's bit 0 is the row's half (48_ppu.md R1226). -/
def Obj.tileAt (o : Obj) (h row : Nat) : Byte :=
  if h = 16 then (if row < 8 then o.tile &&& 0xFE else o.tile ||| 0x01) else o.tile

section

variable {s : State} {o : Obj} {ly px h row col row' col' : Nat}

/-- The fetch of an object's pixel within its footprint (48_ppu.md R1226). -/
theorem objPixel_inside (hh : objHeight s = h) (hrow : ly + objYOffset s = o.y + row) (hcol : px + 8 = o.x + col)
    (hlt : col < 8) (hrow' : row' = if o.attr.getLsbD 6 = true then h - 1 - row else row)
    (hcol' : col' = if o.attr.getLsbD 5 = true then 7 - col else col) :
    objPixel s o ly px =
      some (tilePixel s (0x8000 + 16 * (o.tileAt h row').toNat) (if h = 16 then row' % 8 else row') col') := by
  have hr : ((ly : Int) - o.top s).toNat = row := by
    unfold Obj.top
    omega
  have hc : ((px : Int) - ((o.x : Int) - 8)).toNat = col := by omega
  unfold objPixel
  simp only [hh, hr, hc, ← hrow', ← hcol']
  exact if_pos (by omega)

end

/-- A tall object's upper half is the even tile. -/
theorem tilePixel_tileAt_upper (s : State) (o : Obj) {row : Nat} (col : Nat) (h : row < 8) :
    tilePixel s (0x8000 + 16 * (o.tileAt 16 row).toNat) (if 16 = 16 then row % 8 else row) col =
      tilePixel s (0x8000 + 32 * (o.tile.toNat / 2)) row col := by
  have htile : o.tileAt 16 row = o.tile &&& 0xFE := by simp [Obj.tileAt, h]
  rw [htile, toNat_evenTile, if_pos rfl, Nat.mod_eq_of_lt h, ← Nat.mul_assoc]

/-- A tall object's lower half is the odd tile after it. -/
theorem tilePixel_tileAt_lower (s : State) (o : Obj) {row : Nat} (col : Nat) (h : 8 ≤ row) (hlt : row < 16) :
    tilePixel s (0x8000 + 16 * (o.tileAt 16 row).toNat) (if 16 = 16 then row % 8 else row) col =
      tilePixel s (0x8000 + 32 * (o.tile.toNat / 2) + 16) (row - 8) col := by
  have htile : o.tileAt 16 row = o.tile ||| 0x01 := by simp [Obj.tileAt, Nat.not_lt_of_le h]
  rw [htile, toNat_oddTile, if_pos rfl, show row % 8 = row - 8 by omega, Nat.mul_add, ← Nat.mul_assoc, ← Nat.add_assoc]

/-! ### Composition -/

section

variable {s : State} {ly px : Nat} {bci : BitVec 2}

/-- An object leaves the shade where it has no pixel, a transparent one, or one behind the background (48_ppu.md R1223). -/
theorem overlay_hidden {o : Obj}
    (h : ∀ c, objPixel s o ly px = some c → c ≠ 0 → o.attr.getLsbD 7 = true ∧ bci ≠ 0) (shade : Shade) :
    overlay s ly px bci shade o = shade := by
  unfold overlay
  split
  · rfl
  · next c hc =>
    by_cases hzero : c = 0
    · subst hzero
      split <;> rfl
    · obtain ⟨hpriority, hbci⟩ := h c hc hzero
      exact if_neg (by simpa [hpriority] using hbci)

/-- An object that shows gives the pixel its palette's shade (48_ppu.md R1223, R1227). -/
theorem overlay_showing {o : Obj} {c : BitVec 2} {shade : Shade} (hc : objPixel s o ly px = some c)
    (hshows : o.attr.getLsbD 7 = false ∨ bci = 0)
    (hshade : (if o.attr.getLsbD 4 = true then s.ppu.obp1 else s.ppu.obp0).shade c = some shade) (under : Shade) :
    overlay s ly px bci under o = shade := by
  unfold overlay
  rw [hc]
  simp only [hshade, Option.getD_some]
  exact if_pos (by simpa using hshows)

theorem foldl_overlay_hidden {objs : List Obj}
    (h : ∀ o ∈ objs, ∀ c, objPixel s o ly px = some c → c ≠ 0 → o.attr.getLsbD 7 = true ∧ bci ≠ 0) (shade : Shade) :
    objs.foldl (overlay s ly px bci) shade = shade := by
  induction objs with
  | nil => rfl
  | cons o rest ih =>
    obtain ⟨ho, hrest⟩ := List.forall_mem_cons.1 h
    rw [List.foldl_cons, overlay_hidden ho, ih hrest]

end

section

variable {s : State} {ly px : Nat} {bg : BitVec 2 × Shade}

theorem composePixel_of_objects_off (hbg : bg = if s.ppu.bgEnable = true then bgPixel s ly px else (0, 0))
    (h : s.ppu.objEnable = false) (objs : List Obj) : composePixel s ly objs px = bg.2 := by
  unfold composePixel
  rw [h, hbg]
  rfl

theorem composePixel_of_objects_on (hbg : bg = if s.ppu.bgEnable = true then bgPixel s ly px else (0, 0))
    (h : s.ppu.objEnable = true) (objs : List Obj) :
    composePixel s ly objs px = objs.foldl (overlay s ly px bg.1) bg.2 := by
  rw [hbg]
  exact if_pos h

end

/-- Settles O60: the fetches one by one; in the fold of the objects those after the last one that shows change nothing. -/
theorem lastShowingObjectWins : Obligations.LastShowingObjectWins := by
  unfold Obligations.LastShowingObjectWins
  refine ⟨fun s addr row col _ => toNat_tilePixel s addr row col, ?_, fun s o ly px h => objPixel_outside h s ly, ?_,
    fun p => ⟨rfl, rfl, rfl, rfl⟩, ?_⟩
  · rintro s ly px _ _ _ _ rfl rfl rfl rfl
    refine ⟨?_, bgPalette_shade_eq _ _⟩
    rw [← bgTileAddr_eq]
    rfl
  · intro s o ly px h row col row' col' hh hrow hlt hcol hlt8 hrow' hcol'
    have hpixel := objPixel_inside hh.symm hrow hcol hlt8 hrow' hcol'
    refine ⟨?_, ?_, ?_⟩
    · rintro rfl
      exact hpixel
    · rintro rfl hupper
      rw [hpixel, tilePixel_tileAt_upper s o col' hupper]
    · rintro rfl hlower
      rw [hpixel, tilePixel_tileAt_lower s o col' hlower (by split at hrow' <;> omega)]
  · intro s ly px objs bg hbg
    refine ⟨fun hoff => composePixel_of_objects_off hbg hoff objs, fun hon hhidden => ?_, ?_⟩
    · rw [composePixel_of_objects_on hbg hon, foldl_overlay_hidden hhidden]
    · rintro before after o c shade hon rfl hc - hshows hafter hshade
      rw [composePixel_of_objects_on hbg hon, List.foldl_append, List.foldl_cons, overlay_showing hc hshows hshade,
        foldl_overlay_hidden hafter]

end Sys2Proof.Machine
end
